-- ==== Sys2Proof/Word.lean ====
section
/-! DEFINITION. The words the machine is made of (00_scope.md, 10_state.md rules R2 to R5). -/

namespace Sys2Proof

/-- One byte of memory. -/
abbrev Byte := BitVec 8
/-- A 32-bit word: an instruction, a control register, half of a floating-point register. -/
abbrev Word := BitVec 32
/-- A 64-bit doubleword: a general register, a virtual address (10_state.md rules R2, R4). -/
abbrev Dword := BitVec 64
/-- A 36-bit physical address (20_memory.md rule R118). -/
abbrev PAddr := BitVec 36
/-- The number of a general register (10_state.md rule R2). -/
abbrev RegNum := BitVec 5
/-- The number of a floating-point register or of a control register of the FPU (10_state.md rules R52, R53). -/
abbrev FprNum := BitVec 5
/-- A cache attribute code (20_memory.md rule R121). -/
abbrev CacheAttr := BitVec 3

end Sys2Proof
end

