-- ==== Sys2Proof/Syntax.lean ====
section
/-! DEFINITION. The instructions of the VR5500: one constructor for each row of spec/opcode_table.json
(30_encoding.md rules R207 to R214). An operand is the field the encoding carries, in the table's order;
a field the manual prints as zero and does not decode (rule R206) is no operand. -/

namespace Sys2Proof

/-- An instruction of the VR5500, as 30_encoding.md rule R206 selects it. -/
inductive Instr where
  -- format I
  /-- ADDI (rule R404). -/
  | addi (rs : RegNum) (rt : RegNum) (imm : BitVec 16)
  /-- ADDIU (rule R405). -/
  | addiu (rs : RegNum) (rt : RegNum) (imm : BitVec 16)
  /-- SLTI (rule R406). -/
  | slti (rs : RegNum) (rt : RegNum) (imm : BitVec 16)
  /-- SLTIU (rule R407). -/
  | sltiu (rs : RegNum) (rt : RegNum) (imm : BitVec 16)
  /-- ANDI (rule R408). -/
  | andi (rs : RegNum) (rt : RegNum) (imm : BitVec 16)
  /-- ORI (rule R409). -/
  | ori (rs : RegNum) (rt : RegNum) (imm : BitVec 16)
  /-- XORI (rule R410). -/
  | xori (rs : RegNum) (rt : RegNum) (imm : BitVec 16)
  /-- DADDI (rule R412). -/
  | daddi (rs : RegNum) (rt : RegNum) (imm : BitVec 16)
  /-- DADDIU (rule R413). -/
  | daddiu (rs : RegNum) (rt : RegNum) (imm : BitVec 16)
  /-- LUI (rule R411). -/
  | lui (rt : RegNum) (imm : BitVec 16)
  /-- LB (rule R307). -/
  | lb (base : RegNum) (rt : RegNum) (offset : BitVec 16)
  /-- LH (rule R309). -/
  | lh (base : RegNum) (rt : RegNum) (offset : BitVec 16)
  /-- LWL (rule R314). -/
  | lwl (base : RegNum) (rt : RegNum) (offset : BitVec 16)
  /-- LW (rule R311). -/
  | lw (base : RegNum) (rt : RegNum) (offset : BitVec 16)
  /-- LBU (rule R308). -/
  | lbu (base : RegNum) (rt : RegNum) (offset : BitVec 16)
  /-- LHU (rule R310). -/
  | lhu (base : RegNum) (rt : RegNum) (offset : BitVec 16)
  /-- LWR (rule R315). -/
  | lwr (base : RegNum) (rt : RegNum) (offset : BitVec 16)
  /-- LWU (rule R312). -/
  | lwu (base : RegNum) (rt : RegNum) (offset : BitVec 16)
  /-- SB (rule R318). -/
  | sb (base : RegNum) (rt : RegNum) (offset : BitVec 16)
  /-- SH (rule R319). -/
  | sh (base : RegNum) (rt : RegNum) (offset : BitVec 16)
  /-- SWL (rule R322). -/
  | swl (base : RegNum) (rt : RegNum) (offset : BitVec 16)
  /-- SW (rule R320). -/
  | sw (base : RegNum) (rt : RegNum) (offset : BitVec 16)
  /-- SDL (rule R324). -/
  | sdl (base : RegNum) (rt : RegNum) (offset : BitVec 16)
  /-- SDR (rule R325). -/
  | sdr (base : RegNum) (rt : RegNum) (offset : BitVec 16)
  /-- SWR (rule R323). -/
  | swr (base : RegNum) (rt : RegNum) (offset : BitVec 16)
  /-- LDL (rule R316). -/
  | ldl (base : RegNum) (rt : RegNum) (offset : BitVec 16)
  /-- LDR (rule R317). -/
  | ldr (base : RegNum) (rt : RegNum) (offset : BitVec 16)
  /-- LL (rule R326). -/
  | ll (base : RegNum) (rt : RegNum) (offset : BitVec 16)
  /-- LLD (rule R327). -/
  | lld (base : RegNum) (rt : RegNum) (offset : BitVec 16)
  /-- LD (rule R313). -/
  | ld (base : RegNum) (rt : RegNum) (offset : BitVec 16)
  /-- SC (rule R328). -/
  | sc (base : RegNum) (rt : RegNum) (offset : BitVec 16)
  /-- SCD (rule R329). -/
  | scd (base : RegNum) (rt : RegNum) (offset : BitVec 16)
  /-- SD (rule R321). -/
  | sd (base : RegNum) (rt : RegNum) (offset : BitVec 16)
  /-- CACHE (rule R740). -/
  | cache (base : RegNum) (op : BitVec 5) (offset : BitVec 16)
  /-- PREF (rule R654). -/
  | pref (base : RegNum) (hint : BitVec 5) (offset : BitVec 16)
  /-- LWC1 (rule R800). -/
  | lwc1 (base : RegNum) (ft : FprNum) (offset : BitVec 16)
  /-- LDC1 (rule R801). -/
  | ldc1 (base : RegNum) (ft : FprNum) (offset : BitVec 16)
  /-- SWC1 (rule R802). -/
  | swc1 (base : RegNum) (ft : FprNum) (offset : BitVec 16)
  /-- SDC1 (rule R803). -/
  | sdc1 (base : RegNum) (ft : FprNum) (offset : BitVec 16)
  /-- BEQ (rule R608). -/
  | beq (rs : RegNum) (rt : RegNum) (offset : BitVec 16)
  /-- BNE (rule R609). -/
  | bne (rs : RegNum) (rt : RegNum) (offset : BitVec 16)
  /-- BEQL (rule R616). -/
  | beql (rs : RegNum) (rt : RegNum) (offset : BitVec 16)
  /-- BNEL (rule R617). -/
  | bnel (rs : RegNum) (rt : RegNum) (offset : BitVec 16)
  /-- BLEZ (rule R610). -/
  | blez (rs : RegNum) (offset : BitVec 16)
  /-- BGTZ (rule R611). -/
  | bgtz (rs : RegNum) (offset : BitVec 16)
  /-- BLEZL (rule R618). -/
  | blezl (rs : RegNum) (offset : BitVec 16)
  /-- BGTZL (rule R619). -/
  | bgtzl (rs : RegNum) (offset : BitVec 16)
  -- format I (REGIMM)
  /-- BLTZ (rule R612). -/
  | bltz (rs : RegNum) (offset : BitVec 16)
  /-- BGEZ (rule R613). -/
  | bgez (rs : RegNum) (offset : BitVec 16)
  /-- BLTZL (rule R620). -/
  | bltzl (rs : RegNum) (offset : BitVec 16)
  /-- BGEZL (rule R621). -/
  | bgezl (rs : RegNum) (offset : BitVec 16)
  /-- BLTZAL (rule R614). -/
  | bltzal (rs : RegNum) (offset : BitVec 16)
  /-- BGEZAL (rule R615). -/
  | bgezal (rs : RegNum) (offset : BitVec 16)
  /-- BLTZALL (rule R622). -/
  | bltzall (rs : RegNum) (offset : BitVec 16)
  /-- BGEZALL (rule R623). -/
  | bgezall (rs : RegNum) (offset : BitVec 16)
  /-- TGEI (rule R662). -/
  | tgei (rs : RegNum) (imm : BitVec 16)
  /-- TGEIU (rule R663). -/
  | tgeiu (rs : RegNum) (imm : BitVec 16)
  /-- TLTI (rule R664). -/
  | tlti (rs : RegNum) (imm : BitVec 16)
  /-- TLTIU (rule R665). -/
  | tltiu (rs : RegNum) (imm : BitVec 16)
  /-- TEQI (rule R666). -/
  | teqi (rs : RegNum) (imm : BitVec 16)
  /-- TNEI (rule R667). -/
  | tnei (rs : RegNum) (imm : BitVec 16)
  -- format J
  /-- J (rule R624). -/
  | j (target : BitVec 26)
  /-- JAL (rule R625). -/
  | jal (target : BitVec 26)
  -- format R (SPECIAL)
  /-- ADD (rule R414). -/
  | add (rs : RegNum) (rt : RegNum) (rd : RegNum)
  /-- ADDU (rule R415). -/
  | addu (rs : RegNum) (rt : RegNum) (rd : RegNum)
  /-- SUB (rule R416). -/
  | sub (rs : RegNum) (rt : RegNum) (rd : RegNum)
  /-- SUBU (rule R417). -/
  | subu (rs : RegNum) (rt : RegNum) (rd : RegNum)
  /-- AND (rule R420). -/
  | and (rs : RegNum) (rt : RegNum) (rd : RegNum)
  /-- OR (rule R421). -/
  | or (rs : RegNum) (rt : RegNum) (rd : RegNum)
  /-- XOR (rule R422). -/
  | xor (rs : RegNum) (rt : RegNum) (rd : RegNum)
  /-- NOR (rule R423). -/
  | nor (rs : RegNum) (rt : RegNum) (rd : RegNum)
  /-- SLT (rule R418). -/
  | slt (rs : RegNum) (rt : RegNum) (rd : RegNum)
  /-- SLTU (rule R419). -/
  | sltu (rs : RegNum) (rt : RegNum) (rd : RegNum)
  /-- DADD (rule R424). -/
  | dadd (rs : RegNum) (rt : RegNum) (rd : RegNum)
  /-- DADDU (rule R425). -/
  | daddu (rs : RegNum) (rt : RegNum) (rd : RegNum)
  /-- DSUB (rule R426). -/
  | dsub (rs : RegNum) (rt : RegNum) (rd : RegNum)
  /-- DSUBU (rule R427). -/
  | dsubu (rs : RegNum) (rt : RegNum) (rd : RegNum)
  /-- MOVZ (rule R429). -/
  | movz (rs : RegNum) (rt : RegNum) (rd : RegNum)
  /-- MOVN (rule R428). -/
  | movn (rs : RegNum) (rt : RegNum) (rd : RegNum)
  /-- SLLV (rule R433). -/
  | sllv (rs : RegNum) (rt : RegNum) (rd : RegNum)
  /-- SRAV (rule R435). -/
  | srav (rs : RegNum) (rt : RegNum) (rd : RegNum)
  /-- DSLLV (rule R439). -/
  | dsllv (rs : RegNum) (rt : RegNum) (rd : RegNum)
  /-- DSRAV (rule R441). -/
  | dsrav (rs : RegNum) (rt : RegNum) (rd : RegNum)
  /-- SRLV (rule R434). -/
  | srlv (rs : RegNum) (rt : RegNum) (rd : RegNum)
  /-- RORV (rule R446). -/
  | rorv (rs : RegNum) (rt : RegNum) (rd : RegNum)
  /-- DSRLV (rule R440). -/
  | dsrlv (rs : RegNum) (rt : RegNum) (rd : RegNum)
  /-- DRORV (rule R449). -/
  | drorv (rs : RegNum) (rt : RegNum) (rd : RegNum)
  /-- SSNOP (rule R653). -/
  | ssnop
  /-- SLL (rule R430). -/
  | sll (rt : RegNum) (rd : RegNum) (sa : BitVec 5)
  /-- SRA (rule R432). -/
  | sra (rt : RegNum) (rd : RegNum) (sa : BitVec 5)
  /-- DSLL (rule R436). -/
  | dsll (rt : RegNum) (rd : RegNum) (sa : BitVec 5)
  /-- DSRA (rule R438). -/
  | dsra (rt : RegNum) (rd : RegNum) (sa : BitVec 5)
  /-- DSLL32 (rule R442). -/
  | dsll32 (rt : RegNum) (rd : RegNum) (sa : BitVec 5)
  /-- DSRA32 (rule R444). -/
  | dsra32 (rt : RegNum) (rd : RegNum) (sa : BitVec 5)
  /-- SRL (rule R431). -/
  | srl (rt : RegNum) (rd : RegNum) (sa : BitVec 5)
  /-- ROR (rule R445). -/
  | ror (rt : RegNum) (rd : RegNum) (sa : BitVec 5)
  /-- DSRL (rule R437). -/
  | dsrl (rt : RegNum) (rd : RegNum) (sa : BitVec 5)
  /-- DROR (rule R447). -/
  | dror (rt : RegNum) (rd : RegNum) (sa : BitVec 5)
  /-- DSRL32 (rule R443). -/
  | dsrl32 (rt : RegNum) (rd : RegNum) (sa : BitVec 5)
  /-- DROR32 (rule R448). -/
  | dror32 (rt : RegNum) (rd : RegNum) (sa : BitVec 5)
  -- format R (SPECIAL, MOVCI)
  /-- MOVF (rule R823). -/
  | movf (rs : RegNum) (cc : BitVec 3) (rd : RegNum)
  /-- MOVT (rule R824). -/
  | movt (rs : RegNum) (cc : BitVec 3) (rd : RegNum)
  -- format R (SPECIAL)
  /-- JR (rule R626). -/
  | jr (rs : RegNum)
  /-- JALR (rule R627). -/
  | jalr (rs : RegNum) (rd : RegNum)
  /-- SYSCALL (rule R650). -/
  | syscall (code : BitVec 20)
  /-- BREAK (rule R651). -/
  | breakpoint (code : BitVec 20)
  /-- SYNC (rule R652). -/
  | sync (stype : BitVec 5)
  /-- MFHI (rule R512). -/
  | mfhi (rd : RegNum)
  /-- MTHI (rule R514). -/
  | mthi (rs : RegNum)
  /-- MFLO (rule R513). -/
  | mflo (rd : RegNum)
  /-- MTLO (rule R515). -/
  | mtlo (rs : RegNum)
  /-- MULT (rule R504). -/
  | mult (rs : RegNum) (rt : RegNum)
  /-- MULTU (rule R505). -/
  | multu (rs : RegNum) (rt : RegNum)
  /-- DIV (rule R506). -/
  | div (rs : RegNum) (rt : RegNum)
  /-- DIVU (rule R507). -/
  | divu (rs : RegNum) (rt : RegNum)
  /-- DMULT (rule R508). -/
  | dmult (rs : RegNum) (rt : RegNum)
  /-- DMULTU (rule R509). -/
  | dmultu (rs : RegNum) (rt : RegNum)
  /-- DDIV (rule R510). -/
  | ddiv (rs : RegNum) (rt : RegNum)
  /-- DDIVU (rule R511). -/
  | ddivu (rs : RegNum) (rt : RegNum)
  /-- MUL (rule R529). -/
  | mul (rs : RegNum) (rt : RegNum) (rd : RegNum)
  /-- MULU (rule R536). -/
  | mulu (rs : RegNum) (rt : RegNum) (rd : RegNum)
  /-- MULS (rule R532). -/
  | muls (rs : RegNum) (rt : RegNum) (rd : RegNum)
  /-- MULSU (rule R535). -/
  | mulsu (rs : RegNum) (rt : RegNum) (rd : RegNum)
  /-- MACC (rule R521). -/
  | macc (rs : RegNum) (rt : RegNum) (rd : RegNum)
  /-- MACCU (rule R524). -/
  | maccu (rs : RegNum) (rt : RegNum) (rd : RegNum)
  /-- MSAC (rule R525). -/
  | msac (rs : RegNum) (rt : RegNum) (rd : RegNum)
  /-- MSACU (rule R528). -/
  | msacu (rs : RegNum) (rt : RegNum) (rd : RegNum)
  /-- MULHI (rule R530). -/
  | mulhi (rs : RegNum) (rt : RegNum) (rd : RegNum)
  /-- MULHIU (rule R531). -/
  | mulhiu (rs : RegNum) (rt : RegNum) (rd : RegNum)
  /-- MULSHI (rule R533). -/
  | mulshi (rs : RegNum) (rt : RegNum) (rd : RegNum)
  /-- MULSHIU (rule R534). -/
  | mulshiu (rs : RegNum) (rt : RegNum) (rd : RegNum)
  /-- MACCHI (rule R522). -/
  | macchi (rs : RegNum) (rt : RegNum) (rd : RegNum)
  /-- MACCHIU (rule R523). -/
  | macchiu (rs : RegNum) (rt : RegNum) (rd : RegNum)
  /-- MSACHI (rule R526). -/
  | msachi (rs : RegNum) (rt : RegNum) (rd : RegNum)
  /-- MSACHIU (rule R527). -/
  | msachiu (rs : RegNum) (rt : RegNum) (rd : RegNum)
  /-- TGE (rule R656). -/
  | tge (rs : RegNum) (rt : RegNum) (code : BitVec 10)
  /-- TGEU (rule R657). -/
  | tgeu (rs : RegNum) (rt : RegNum) (code : BitVec 10)
  /-- TLT (rule R658). -/
  | tlt (rs : RegNum) (rt : RegNum) (code : BitVec 10)
  /-- TLTU (rule R659). -/
  | tltu (rs : RegNum) (rt : RegNum) (code : BitVec 10)
  /-- TEQ (rule R660). -/
  | teq (rs : RegNum) (rt : RegNum) (code : BitVec 10)
  /-- TNE (rule R661). -/
  | tne (rs : RegNum) (rt : RegNum) (code : BitVec 10)
  -- format R (SPECIAL2)
  /-- MADD (rule R516). -/
  | madd (rs : RegNum) (rt : RegNum)
  /-- MADDU (rule R517). -/
  | maddu (rs : RegNum) (rt : RegNum)
  /-- MSUB (rule R518). -/
  | msub (rs : RegNum) (rt : RegNum)
  /-- MSUBU (rule R519). -/
  | msubu (rs : RegNum) (rt : RegNum)
  /-- MUL64 (rule R520). -/
  | mul64 (rs : RegNum) (rt : RegNum) (rd : RegNum)
  /-- CLZ (rule R451). -/
  | clz (rs : RegNum) (rd : RegNum)
  /-- CLO (rule R450). -/
  | clo (rs : RegNum) (rd : RegNum)
  /-- DCLZ (rule R453). -/
  | dclz (rs : RegNum) (rd : RegNum)
  /-- DCLO (rule R452). -/
  | dclo (rs : RegNum) (rd : RegNum)
  -- format COP0 move
  /-- MFPC (rule R706). -/
  | mfpc (rt : RegNum) (reg : BitVec 5)
  /-- MFPS (rule R708). -/
  | mfps (rt : RegNum) (reg : BitVec 5)
  /-- MTPC (rule R707). -/
  | mtpc (rt : RegNum) (reg : BitVec 5)
  /-- MTPS (rule R709). -/
  | mtps (rt : RegNum) (reg : BitVec 5)
  /-- MFC0 (rule R702). -/
  | mfc0 (rt : RegNum) (rd : RegNum)
  /-- DMFC0 (rule R704). -/
  | dmfc0 (rt : RegNum) (rd : RegNum)
  /-- MTC0 (rule R703). -/
  | mtc0 (rt : RegNum) (rd : RegNum)
  /-- DMTC0 (rule R705). -/
  | dmtc0 (rt : RegNum) (rd : RegNum)
  -- format COP0 branch
  /-- BC0F (rule R629). -/
  | bc0f (offset : BitVec 16)
  /-- BC0T (rule R630). -/
  | bc0t (offset : BitVec 16)
  /-- BC0FL (rule R631). -/
  | bc0fl (offset : BitVec 16)
  /-- BC0TL (rule R632). -/
  | bc0tl (offset : BitVec 16)
  -- format COP0 CO
  /-- TLBR (rule R716). -/
  | tlbr
  /-- TLBWI (rule R717). -/
  | tlbwi
  /-- TLBWR (rule R718). -/
  | tlbwr
  /-- TLBP (rule R715). -/
  | tlbp
  /-- ERET (rule R730). -/
  | eret
  /-- WAIT (rule R735). -/
  | wait (code : BitVec 19)
  -- format COP1 move
  /-- MFC1 (rule R812). -/
  | mfc1 (rt : RegNum) (fs : FprNum)
  /-- DMFC1 (rule R814). -/
  | dmfc1 (rt : RegNum) (fs : FprNum)
  /-- CFC1 (rule R816). -/
  | cfc1 (rt : RegNum) (fs : FprNum)
  /-- MTC1 (rule R813). -/
  | mtc1 (rt : RegNum) (fs : FprNum)
  /-- DMTC1 (rule R815). -/
  | dmtc1 (rt : RegNum) (fs : FprNum)
  /-- CTC1 (rule R817). -/
  | ctc1 (rt : RegNum) (fs : FprNum)
  -- format COP1 branch
  /-- BC1F (rule R819). -/
  | bc1f (cc : BitVec 3) (offset : BitVec 16)
  /-- BC1T (rule R820). -/
  | bc1t (cc : BitVec 3) (offset : BitVec 16)
  /-- BC1FL (rule R821). -/
  | bc1fl (cc : BitVec 3) (offset : BitVec 16)
  /-- BC1TL (rule R822). -/
  | bc1tl (cc : BitVec 3) (offset : BitVec 16)
  -- format COP1 fmt
  /-- ADD.S (rule R865). -/
  | fpAddS (ft : FprNum) (fs : FprNum) (fd : FprNum)
  /-- ADD.D (rule R865). -/
  | fpAddD (ft : FprNum) (fs : FprNum) (fd : FprNum)
  /-- SUB.S (rule R866). -/
  | fpSubS (ft : FprNum) (fs : FprNum) (fd : FprNum)
  /-- SUB.D (rule R866). -/
  | fpSubD (ft : FprNum) (fs : FprNum) (fd : FprNum)
  /-- MUL.S (rule R867). -/
  | fpMulS (ft : FprNum) (fs : FprNum) (fd : FprNum)
  /-- MUL.D (rule R867). -/
  | fpMulD (ft : FprNum) (fs : FprNum) (fd : FprNum)
  /-- DIV.S (rule R868). -/
  | fpDivS (ft : FprNum) (fs : FprNum) (fd : FprNum)
  /-- DIV.D (rule R868). -/
  | fpDivD (ft : FprNum) (fs : FprNum) (fd : FprNum)
  /-- SQRT.S (rule R869). -/
  | fpSqrtS (fs : FprNum) (fd : FprNum)
  /-- SQRT.D (rule R869). -/
  | fpSqrtD (fs : FprNum) (fd : FprNum)
  /-- ABS.S (rule R870). -/
  | fpAbsS (fs : FprNum) (fd : FprNum)
  /-- ABS.D (rule R870). -/
  | fpAbsD (fs : FprNum) (fd : FprNum)
  /-- MOV.S (rule R825). -/
  | fpMovS (fs : FprNum) (fd : FprNum)
  /-- MOV.D (rule R825). -/
  | fpMovD (fs : FprNum) (fd : FprNum)
  /-- NEG.S (rule R871). -/
  | fpNegS (fs : FprNum) (fd : FprNum)
  /-- NEG.D (rule R871). -/
  | fpNegD (fs : FprNum) (fd : FprNum)
  /-- ROUND.L.S (rule R881). -/
  | fpRoundLS (fs : FprNum) (fd : FprNum)
  /-- ROUND.L.D (rule R881). -/
  | fpRoundLD (fs : FprNum) (fd : FprNum)
  /-- TRUNC.L.S (rule R882). -/
  | fpTruncLS (fs : FprNum) (fd : FprNum)
  /-- TRUNC.L.D (rule R882). -/
  | fpTruncLD (fs : FprNum) (fd : FprNum)
  /-- CEIL.L.S (rule R883). -/
  | fpCeilLS (fs : FprNum) (fd : FprNum)
  /-- CEIL.L.D (rule R883). -/
  | fpCeilLD (fs : FprNum) (fd : FprNum)
  /-- FLOOR.L.S (rule R884). -/
  | fpFloorLS (fs : FprNum) (fd : FprNum)
  /-- FLOOR.L.D (rule R884). -/
  | fpFloorLD (fs : FprNum) (fd : FprNum)
  /-- ROUND.W.S (rule R885). -/
  | fpRoundWS (fs : FprNum) (fd : FprNum)
  /-- ROUND.W.D (rule R885). -/
  | fpRoundWD (fs : FprNum) (fd : FprNum)
  /-- TRUNC.W.S (rule R886). -/
  | fpTruncWS (fs : FprNum) (fd : FprNum)
  /-- TRUNC.W.D (rule R886). -/
  | fpTruncWD (fs : FprNum) (fd : FprNum)
  /-- CEIL.W.S (rule R887). -/
  | fpCeilWS (fs : FprNum) (fd : FprNum)
  /-- CEIL.W.D (rule R887). -/
  | fpCeilWD (fs : FprNum) (fd : FprNum)
  /-- FLOOR.W.S (rule R888). -/
  | fpFloorWS (fs : FprNum) (fd : FprNum)
  /-- FLOOR.W.D (rule R888). -/
  | fpFloorWD (fs : FprNum) (fd : FprNum)
  /-- RECIP.S (rule R872). -/
  | fpRecipS (fs : FprNum) (fd : FprNum)
  /-- RECIP.D (rule R872). -/
  | fpRecipD (fs : FprNum) (fd : FprNum)
  /-- RSQRT.S (rule R873). -/
  | fpRsqrtS (fs : FprNum) (fd : FprNum)
  /-- RSQRT.D (rule R873). -/
  | fpRsqrtD (fs : FprNum) (fd : FprNum)
  /-- CVT.W.S (rule R891). -/
  | fpCvtWS (fs : FprNum) (fd : FprNum)
  /-- CVT.W.D (rule R891). -/
  | fpCvtWD (fs : FprNum) (fd : FprNum)
  /-- CVT.L.S (rule R892). -/
  | fpCvtLS (fs : FprNum) (fd : FprNum)
  /-- CVT.L.D (rule R892). -/
  | fpCvtLD (fs : FprNum) (fd : FprNum)
  /-- CVT.S.D (rule R889). -/
  | fpCvtSD (fs : FprNum) (fd : FprNum)
  /-- CVT.S.W (rule R889). -/
  | fpCvtSW (fs : FprNum) (fd : FprNum)
  /-- CVT.S.L (rule R889). -/
  | fpCvtSL (fs : FprNum) (fd : FprNum)
  /-- CVT.D.S (rule R890). -/
  | fpCvtDS (fs : FprNum) (fd : FprNum)
  /-- CVT.D.W (rule R890). -/
  | fpCvtDW (fs : FprNum) (fd : FprNum)
  /-- CVT.D.L (rule R890). -/
  | fpCvtDL (fs : FprNum) (fd : FprNum)
  /-- MOVF.S (rule R826). -/
  | fpMovfS (cc : BitVec 3) (fs : FprNum) (fd : FprNum)
  /-- MOVF.D (rule R826). -/
  | fpMovfD (cc : BitVec 3) (fs : FprNum) (fd : FprNum)
  /-- MOVT.S (rule R827). -/
  | fpMovtS (cc : BitVec 3) (fs : FprNum) (fd : FprNum)
  /-- MOVT.D (rule R827). -/
  | fpMovtD (cc : BitVec 3) (fs : FprNum) (fd : FprNum)
  /-- MOVZ.S (rule R829). -/
  | fpMovzS (rt : RegNum) (fs : FprNum) (fd : FprNum)
  /-- MOVZ.D (rule R829). -/
  | fpMovzD (rt : RegNum) (fs : FprNum) (fd : FprNum)
  /-- MOVN.S (rule R828). -/
  | fpMovnS (rt : RegNum) (fs : FprNum) (fd : FprNum)
  /-- MOVN.D (rule R828). -/
  | fpMovnD (rt : RegNum) (fs : FprNum) (fd : FprNum)
  /-- C.F.S (rule R895). -/
  | fpCFS (ft : FprNum) (fs : FprNum) (cc : BitVec 3)
  /-- C.F.D (rule R895). -/
  | fpCFD (ft : FprNum) (fs : FprNum) (cc : BitVec 3)
  /-- C.UN.S (rule R895). -/
  | fpCUnS (ft : FprNum) (fs : FprNum) (cc : BitVec 3)
  /-- C.UN.D (rule R895). -/
  | fpCUnD (ft : FprNum) (fs : FprNum) (cc : BitVec 3)
  /-- C.EQ.S (rule R895). -/
  | fpCEqS (ft : FprNum) (fs : FprNum) (cc : BitVec 3)
  /-- C.EQ.D (rule R895). -/
  | fpCEqD (ft : FprNum) (fs : FprNum) (cc : BitVec 3)
  /-- C.UEQ.S (rule R895). -/
  | fpCUeqS (ft : FprNum) (fs : FprNum) (cc : BitVec 3)
  /-- C.UEQ.D (rule R895). -/
  | fpCUeqD (ft : FprNum) (fs : FprNum) (cc : BitVec 3)
  /-- C.OLT.S (rule R895). -/
  | fpCOltS (ft : FprNum) (fs : FprNum) (cc : BitVec 3)
  /-- C.OLT.D (rule R895). -/
  | fpCOltD (ft : FprNum) (fs : FprNum) (cc : BitVec 3)
  /-- C.ULT.S (rule R895). -/
  | fpCUltS (ft : FprNum) (fs : FprNum) (cc : BitVec 3)
  /-- C.ULT.D (rule R895). -/
  | fpCUltD (ft : FprNum) (fs : FprNum) (cc : BitVec 3)
  /-- C.OLE.S (rule R895). -/
  | fpCOleS (ft : FprNum) (fs : FprNum) (cc : BitVec 3)
  /-- C.OLE.D (rule R895). -/
  | fpCOleD (ft : FprNum) (fs : FprNum) (cc : BitVec 3)
  /-- C.ULE.S (rule R895). -/
  | fpCUleS (ft : FprNum) (fs : FprNum) (cc : BitVec 3)
  /-- C.ULE.D (rule R895). -/
  | fpCUleD (ft : FprNum) (fs : FprNum) (cc : BitVec 3)
  /-- C.SF.S (rule R895). -/
  | fpCSfS (ft : FprNum) (fs : FprNum) (cc : BitVec 3)
  /-- C.SF.D (rule R895). -/
  | fpCSfD (ft : FprNum) (fs : FprNum) (cc : BitVec 3)
  /-- C.NGLE.S (rule R895). -/
  | fpCNgleS (ft : FprNum) (fs : FprNum) (cc : BitVec 3)
  /-- C.NGLE.D (rule R895). -/
  | fpCNgleD (ft : FprNum) (fs : FprNum) (cc : BitVec 3)
  /-- C.SEQ.S (rule R895). -/
  | fpCSeqS (ft : FprNum) (fs : FprNum) (cc : BitVec 3)
  /-- C.SEQ.D (rule R895). -/
  | fpCSeqD (ft : FprNum) (fs : FprNum) (cc : BitVec 3)
  /-- C.NGL.S (rule R895). -/
  | fpCNglS (ft : FprNum) (fs : FprNum) (cc : BitVec 3)
  /-- C.NGL.D (rule R895). -/
  | fpCNglD (ft : FprNum) (fs : FprNum) (cc : BitVec 3)
  /-- C.LT.S (rule R895). -/
  | fpCLtS (ft : FprNum) (fs : FprNum) (cc : BitVec 3)
  /-- C.LT.D (rule R895). -/
  | fpCLtD (ft : FprNum) (fs : FprNum) (cc : BitVec 3)
  /-- C.NGE.S (rule R895). -/
  | fpCNgeS (ft : FprNum) (fs : FprNum) (cc : BitVec 3)
  /-- C.NGE.D (rule R895). -/
  | fpCNgeD (ft : FprNum) (fs : FprNum) (cc : BitVec 3)
  /-- C.LE.S (rule R895). -/
  | fpCLeS (ft : FprNum) (fs : FprNum) (cc : BitVec 3)
  /-- C.LE.D (rule R895). -/
  | fpCLeD (ft : FprNum) (fs : FprNum) (cc : BitVec 3)
  /-- C.NGT.S (rule R895). -/
  | fpCNgtS (ft : FprNum) (fs : FprNum) (cc : BitVec 3)
  /-- C.NGT.D (rule R895). -/
  | fpCNgtD (ft : FprNum) (fs : FprNum) (cc : BitVec 3)
  -- format COP1X
  /-- LWXC1 (rule R805). -/
  | lwxc1 (base : RegNum) (index : RegNum) (fd : FprNum)
  /-- LDXC1 (rule R806). -/
  | ldxc1 (base : RegNum) (index : RegNum) (fd : FprNum)
  /-- LUXC1 (rule R807). -/
  | luxc1 (base : RegNum) (index : RegNum) (fd : FprNum)
  /-- SWXC1 (rule R808). -/
  | swxc1 (base : RegNum) (index : RegNum) (fs : FprNum)
  /-- SDXC1 (rule R809). -/
  | sdxc1 (base : RegNum) (index : RegNum) (fs : FprNum)
  /-- SUXC1 (rule R810). -/
  | suxc1 (base : RegNum) (index : RegNum) (fs : FprNum)
  /-- PREFX (rule R811). -/
  | prefx (base : RegNum) (index : RegNum) (hint : BitVec 5)
  /-- MADD.S (rule R874). -/
  | fpMaddS (fr : FprNum) (ft : FprNum) (fs : FprNum) (fd : FprNum)
  /-- MADD.D (rule R874). -/
  | fpMaddD (fr : FprNum) (ft : FprNum) (fs : FprNum) (fd : FprNum)
  /-- MSUB.S (rule R875). -/
  | fpMsubS (fr : FprNum) (ft : FprNum) (fs : FprNum) (fd : FprNum)
  /-- MSUB.D (rule R875). -/
  | fpMsubD (fr : FprNum) (ft : FprNum) (fs : FprNum) (fd : FprNum)
  /-- NMADD.S (rule R876). -/
  | fpNmaddS (fr : FprNum) (ft : FprNum) (fs : FprNum) (fd : FprNum)
  /-- NMADD.D (rule R876). -/
  | fpNmaddD (fr : FprNum) (ft : FprNum) (fs : FprNum) (fd : FprNum)
  /-- NMSUB.S (rule R877). -/
  | fpNmsubS (fr : FprNum) (ft : FprNum) (fs : FprNum) (fd : FprNum)
  /-- NMSUB.D (rule R877). -/
  | fpNmsubD (fr : FprNum) (ft : FprNum) (fs : FprNum) (fd : FprNum)
deriving DecidableEq, Repr

end Sys2Proof
end

