-- ==== Sys2Proof/WellFormed.lean ====
section
/-! DEFINITION. Which terms of `Instr` stand for an instruction word. The width of every operand is in its
type; what remains are the words that two rows of the opcode table would share, where 30_encoding.md rules
R206 and R208 give the word to one of them. -/

namespace Sys2Proof

/-- SLL with rt = rd = 0 and sa = 1 is the word 0x00000040, which is SSNOP (30_encoding.md rule R208). -/
def isSsnopShift (rt rd : RegNum) (sa : BitVec 5) : Bool := rt == 0 && rd == 0 && sa == 1

/-- Register 25 of CP0 is reached by MFPS, MFPC, MTPS and MTPC (30_encoding.md rule R213, 45_cp0_system.md
rule R706). -/
def isPerfReg (rd : RegNum) : Bool := rd == 25

/-- The term is the one that its own word decodes to. -/
def Instr.wellFormed : Instr → Bool
  | .sll rt rd sa => !isSsnopShift rt rd sa
  | .mfc0 _ rd => !isPerfReg rd
  | .mtc0 _ rd => !isPerfReg rd
  | _ => true

end Sys2Proof
end

