-- ==== Sys2Proof/Decode.lean ====
section
/-! DEFINITION. From instruction words to instructions and back (30_encoding.md). The decoder looks at what the
opcode maps look at (rules R206 to R214) and answers a reason where no row matches; which exception a reason
raises depends on the mode and is said where the machine takes it (Machine/Step.lean). The encoder writes zero in
every field that is not decoded. -/

namespace Sys2Proof

/-- Why a word is no instruction: which rule says what the machine does with it. -/
inductive Reject where
  /-- A reserved code of the SPECIAL, REGIMM, SPECIAL2 or major opcode map: rule R220. -/
  | reserved
  /-- A COP0 word of no row: 45_cp0_system.md rule R750. -/
  | cop0
  /-- A COP1 or COP1X word of a reserved function or an invalid format: rule R216. -/
  | cop1Unimplemented
  /-- A conversion to L whose source format is W or L: rules R216 and R217(a). -/
  | cop1LongInvalid
  /-- A COP2 word: 45_cp0_system.md rule R751. -/
  | cop2
deriving DecidableEq, Repr

/-! ## Fields (rules R201 to R204) -/

/-- Bits 31:26, the major opcode. -/
def opOf (w : Word) : BitVec 6 := w.extractLsb' 26 6
/-- Bits 25:21 (rs, base, fmt, fr, sub). -/
def f1Of (w : Word) : BitVec 5 := w.extractLsb' 21 5
/-- Bits 20:16 (rt, ft, index, hint, op of CACHE). -/
def f2Of (w : Word) : BitVec 5 := w.extractLsb' 16 5
/-- Bits 15:11 (rd, fs). -/
def f3Of (w : Word) : BitVec 5 := w.extractLsb' 11 5
/-- Bits 10:6 (sa, fd, stype). -/
def f4Of (w : Word) : BitVec 5 := w.extractLsb' 6 5
/-- Bits 5:0, the function. -/
def fnOf (w : Word) : BitVec 6 := w.extractLsb' 0 6
/-- Bits 15:0 (immediate, offset). -/
def immOf (w : Word) : BitVec 16 := w.extractLsb' 0 16
/-- Bits 25:0 (target). -/
def targetOf (w : Word) : BitVec 26 := w.extractLsb' 0 26
/-- Bits 25:6 (code of SYSCALL and BREAK). -/
def code20Of (w : Word) : BitVec 20 := w.extractLsb' 6 20
/-- Bits 15:6 (code of the register traps). -/
def code10Of (w : Word) : BitVec 10 := w.extractLsb' 6 10
/-- Bits 24:6 (code of WAIT). -/
def code19Of (w : Word) : BitVec 19 := (code20Of w).extractLsb' 0 19
/-- Bits 20:18 (cc of the branches and conditional moves). -/
def ccOf (w : Word) : BitVec 3 := (f2Of w).extractLsb' 2 3
/-- Bit 17 (nd). -/
def ndOf (w : Word) : Bool := (f2Of w).getLsbD 1
/-- Bit 16 (tf). -/
def tfOf (w : Word) : Bool := (f2Of w).getLsbD 0
/-- Bits 10:8 (cc of a compare). Bits 7:6, printed as zero (47_fpu_arith.md rule R895), are not decoded (rule R206,
log 52). -/
def cmpCcOf (w : Word) : BitVec 3 := (f4Of w).extractLsb' 2 3
/-- Bits 5:1 (reg of MFPC, MTPC, MFPS, MTPS). -/
def perfRegOf (w : Word) : BitVec 5 := (fnOf w).extractLsb' 1 5
/-- Bit 0, which tells a performance counter (1) from its control register (0). -/
def perfCounterBit (w : Word) : Bool := (fnOf w).getLsbD 0
/-- Bit 25 (CO) of a COP0 word. -/
def coOf (w : Word) : Bool := (code20Of w).msb

/-! ## The decoder

Lean's run-time gives no code to a constructor past the 245th, so the definitions that build one of those are marked
noncomputable; the kernel evaluates them like any other. -/

/-- SPECIAL (rule R208) with function 011000 or 011001: MULT and MULTU share it with the sum-of-products family,
told apart by bits 10:6 (42_muldiv.md rule R537). -/
def decodeMult (w : Word) : Except Reject Instr :=
  match f4Of w with
  | 0b00000#5 => .ok (.mult (f1Of w) (f2Of w))
  | 0b00001#5 => .ok (.mul (f1Of w) (f2Of w) (f3Of w))
  | 0b00011#5 => .ok (.muls (f1Of w) (f2Of w) (f3Of w))
  | 0b00101#5 => .ok (.macc (f1Of w) (f2Of w) (f3Of w))
  | 0b00111#5 => .ok (.msac (f1Of w) (f2Of w) (f3Of w))
  | 0b01001#5 => .ok (.mulhi (f1Of w) (f2Of w) (f3Of w))
  | 0b01011#5 => .ok (.mulshi (f1Of w) (f2Of w) (f3Of w))
  | 0b01101#5 => .ok (.macchi (f1Of w) (f2Of w) (f3Of w))
  | 0b01111#5 => .ok (.msachi (f1Of w) (f2Of w) (f3Of w))
  | _ => .error .reserved

/-- The unsigned half of `decodeMult`. -/
def decodeMultu (w : Word) : Except Reject Instr :=
  match f4Of w with
  | 0b00000#5 => .ok (.multu (f1Of w) (f2Of w))
  | 0b00001#5 => .ok (.mulu (f1Of w) (f2Of w) (f3Of w))
  | 0b00011#5 => .ok (.mulsu (f1Of w) (f2Of w) (f3Of w))
  | 0b00101#5 => .ok (.maccu (f1Of w) (f2Of w) (f3Of w))
  | 0b00111#5 => .ok (.msacu (f1Of w) (f2Of w) (f3Of w))
  | 0b01001#5 => .ok (.mulhiu (f1Of w) (f2Of w) (f3Of w))
  | 0b01011#5 => .ok (.mulshiu (f1Of w) (f2Of w) (f3Of w))
  | 0b01101#5 => .ok (.macchiu (f1Of w) (f2Of w) (f3Of w))
  | 0b01111#5 => .ok (.msachiu (f1Of w) (f2Of w) (f3Of w))
  | _ => .error .reserved

/-- SPECIAL, by bits 5:0 (rule R208). -/
def decodeSpecial (w : Word) : Except Reject Instr :=
  match fnOf w with
  | 0b000000#6 => if w = 0x00000040#32 then .ok .ssnop else .ok (.sll (f2Of w) (f3Of w) (f4Of w))
  | 0b000001#6 => if tfOf w then .ok (.movt (f1Of w) (ccOf w) (f3Of w)) else .ok (.movf (f1Of w) (ccOf w) (f3Of w))
  | 0b000010#6 => if (f1Of w).getLsbD 0 then .ok (.ror (f2Of w) (f3Of w) (f4Of w)) else .ok (.srl (f2Of w) (f3Of w) (f4Of w))
  | 0b000011#6 => .ok (.sra (f2Of w) (f3Of w) (f4Of w))
  | 0b000100#6 => .ok (.sllv (f1Of w) (f2Of w) (f3Of w))
  | 0b000110#6 => if (f4Of w).getLsbD 0 then .ok (.rorv (f1Of w) (f2Of w) (f3Of w)) else .ok (.srlv (f1Of w) (f2Of w) (f3Of w))
  | 0b000111#6 => .ok (.srav (f1Of w) (f2Of w) (f3Of w))
  | 0b001000#6 => .ok (.jr (f1Of w))
  | 0b001001#6 => .ok (.jalr (f1Of w) (f3Of w))
  | 0b001010#6 => .ok (.movz (f1Of w) (f2Of w) (f3Of w))
  | 0b001011#6 => .ok (.movn (f1Of w) (f2Of w) (f3Of w))
  | 0b001100#6 => .ok (.syscall (code20Of w))
  | 0b001101#6 => .ok (.breakpoint (code20Of w))
  | 0b001111#6 => .ok (.sync (f4Of w))
  | 0b010000#6 => .ok (.mfhi (f3Of w))
  | 0b010001#6 => .ok (.mthi (f1Of w))
  | 0b010010#6 => .ok (.mflo (f3Of w))
  | 0b010011#6 => .ok (.mtlo (f1Of w))
  | 0b010100#6 => .ok (.dsllv (f1Of w) (f2Of w) (f3Of w))
  | 0b010110#6 => if (f4Of w).getLsbD 0 then .ok (.drorv (f1Of w) (f2Of w) (f3Of w)) else .ok (.dsrlv (f1Of w) (f2Of w) (f3Of w))
  | 0b010111#6 => .ok (.dsrav (f1Of w) (f2Of w) (f3Of w))
  | 0b011000#6 => decodeMult w
  | 0b011001#6 => decodeMultu w
  | 0b011010#6 => .ok (.div (f1Of w) (f2Of w))
  | 0b011011#6 => .ok (.divu (f1Of w) (f2Of w))
  | 0b011100#6 => .ok (.dmult (f1Of w) (f2Of w))
  | 0b011101#6 => .ok (.dmultu (f1Of w) (f2Of w))
  | 0b011110#6 => .ok (.ddiv (f1Of w) (f2Of w))
  | 0b011111#6 => .ok (.ddivu (f1Of w) (f2Of w))
  | 0b100000#6 => .ok (.add (f1Of w) (f2Of w) (f3Of w))
  | 0b100001#6 => .ok (.addu (f1Of w) (f2Of w) (f3Of w))
  | 0b100010#6 => .ok (.sub (f1Of w) (f2Of w) (f3Of w))
  | 0b100011#6 => .ok (.subu (f1Of w) (f2Of w) (f3Of w))
  | 0b100100#6 => .ok (.and (f1Of w) (f2Of w) (f3Of w))
  | 0b100101#6 => .ok (.or (f1Of w) (f2Of w) (f3Of w))
  | 0b100110#6 => .ok (.xor (f1Of w) (f2Of w) (f3Of w))
  | 0b100111#6 => .ok (.nor (f1Of w) (f2Of w) (f3Of w))
  | 0b101010#6 => .ok (.slt (f1Of w) (f2Of w) (f3Of w))
  | 0b101011#6 => .ok (.sltu (f1Of w) (f2Of w) (f3Of w))
  | 0b101100#6 => .ok (.dadd (f1Of w) (f2Of w) (f3Of w))
  | 0b101101#6 => .ok (.daddu (f1Of w) (f2Of w) (f3Of w))
  | 0b101110#6 => .ok (.dsub (f1Of w) (f2Of w) (f3Of w))
  | 0b101111#6 => .ok (.dsubu (f1Of w) (f2Of w) (f3Of w))
  | 0b110000#6 => .ok (.tge (f1Of w) (f2Of w) (code10Of w))
  | 0b110001#6 => .ok (.tgeu (f1Of w) (f2Of w) (code10Of w))
  | 0b110010#6 => .ok (.tlt (f1Of w) (f2Of w) (code10Of w))
  | 0b110011#6 => .ok (.tltu (f1Of w) (f2Of w) (code10Of w))
  | 0b110100#6 => .ok (.teq (f1Of w) (f2Of w) (code10Of w))
  | 0b110110#6 => .ok (.tne (f1Of w) (f2Of w) (code10Of w))
  | 0b111000#6 => .ok (.dsll (f2Of w) (f3Of w) (f4Of w))
  | 0b111010#6 => if (f1Of w).getLsbD 0 then .ok (.dror (f2Of w) (f3Of w) (f4Of w)) else .ok (.dsrl (f2Of w) (f3Of w) (f4Of w))
  | 0b111011#6 => .ok (.dsra (f2Of w) (f3Of w) (f4Of w))
  | 0b111100#6 => .ok (.dsll32 (f2Of w) (f3Of w) (f4Of w))
  | 0b111110#6 => if (f1Of w).getLsbD 0 then .ok (.dror32 (f2Of w) (f3Of w) (f4Of w)) else .ok (.dsrl32 (f2Of w) (f3Of w) (f4Of w))
  | 0b111111#6 => .ok (.dsra32 (f2Of w) (f3Of w) (f4Of w))
  | _ => .error .reserved

/-- REGIMM, by bits 20:16 (rule R209). -/
def decodeRegimm (w : Word) : Except Reject Instr :=
  match f2Of w with
  | 0b00000#5 => .ok (.bltz (f1Of w) (immOf w))
  | 0b00001#5 => .ok (.bgez (f1Of w) (immOf w))
  | 0b00010#5 => .ok (.bltzl (f1Of w) (immOf w))
  | 0b00011#5 => .ok (.bgezl (f1Of w) (immOf w))
  | 0b10000#5 => .ok (.bltzal (f1Of w) (immOf w))
  | 0b10001#5 => .ok (.bgezal (f1Of w) (immOf w))
  | 0b10010#5 => .ok (.bltzall (f1Of w) (immOf w))
  | 0b10011#5 => .ok (.bgezall (f1Of w) (immOf w))
  | 0b01000#5 => .ok (.tgei (f1Of w) (immOf w))
  | 0b01001#5 => .ok (.tgeiu (f1Of w) (immOf w))
  | 0b01010#5 => .ok (.tlti (f1Of w) (immOf w))
  | 0b01011#5 => .ok (.tltiu (f1Of w) (immOf w))
  | 0b01100#5 => .ok (.teqi (f1Of w) (immOf w))
  | 0b01110#5 => .ok (.tnei (f1Of w) (immOf w))
  | _ => .error .reserved

/-- SPECIAL2, by bits 5:0 (rule R212). -/
def decodeSpecial2 (w : Word) : Except Reject Instr :=
  match fnOf w with
  | 0b000000#6 => .ok (.madd (f1Of w) (f2Of w))
  | 0b000001#6 => .ok (.maddu (f1Of w) (f2Of w))
  | 0b000100#6 => .ok (.msub (f1Of w) (f2Of w))
  | 0b000101#6 => .ok (.msubu (f1Of w) (f2Of w))
  | 0b000010#6 => .ok (.mul64 (f1Of w) (f2Of w) (f3Of w))
  | 0b100000#6 => .ok (.clz (f1Of w) (f3Of w))
  | 0b100001#6 => .ok (.clo (f1Of w) (f3Of w))
  | 0b100100#6 => .ok (.dclz (f1Of w) (f3Of w))
  | 0b100101#6 => .ok (.dclo (f1Of w) (f3Of w))
  | _ => .error .reserved

/-- COP0 with bit 25 set, by bits 5:0 (rule R213). -/
def decodeCop0Co (w : Word) : Except Reject Instr :=
  match fnOf w with
  | 0b000001#6 => .ok .tlbr
  | 0b000010#6 => .ok .tlbwi
  | 0b000110#6 => .ok .tlbwr
  | 0b001000#6 => .ok .tlbp
  | 0b011000#6 => .ok .eret
  | 0b100000#6 => .ok (.wait (code19Of w))
  | _ => .error .cop0

/-- COP0 BC, by bits 20:16 (rule R213). -/
def decodeBc0 (w : Word) : Except Reject Instr :=
  match f2Of w with
  | 0b00000#5 => .ok (.bc0f (immOf w))
  | 0b00001#5 => .ok (.bc0t (immOf w))
  | 0b00010#5 => .ok (.bc0fl (immOf w))
  | 0b00011#5 => .ok (.bc0tl (immOf w))
  | _ => .error .cop0

/-- COP0, by bits 25:21 (rule R213); register 25 by 45_cp0_system.md rules R706 to R709. -/
def decodeCop0 (w : Word) : Except Reject Instr :=
  if coOf w then decodeCop0Co w else
  match f1Of w with
  | 0b00000#5 => if isPerfReg (f3Of w) then (if perfCounterBit w then .ok (.mfpc (f2Of w) (perfRegOf w)) else .ok (.mfps (f2Of w) (perfRegOf w))) else .ok (.mfc0 (f2Of w) (f3Of w))
  | 0b00001#5 => .ok (.dmfc0 (f2Of w) (f3Of w))
  | 0b00100#5 => if isPerfReg (f3Of w) then (if perfCounterBit w then .ok (.mtpc (f2Of w) (perfRegOf w)) else .ok (.mtps (f2Of w) (perfRegOf w))) else .ok (.mtc0 (f2Of w) (f3Of w))
  | 0b00101#5 => .ok (.dmtc0 (f2Of w) (f3Of w))
  | 0b01000#5 => decodeBc0 w
  | _ => .error .cop0

/-- COP1 with format S, by bits 5:0 (rule R214). -/
noncomputable def decodeFmtS (w : Word) : Except Reject Instr :=
  match fnOf w with
  | 0b000000#6 => .ok (.fpAddS (f2Of w) (f3Of w) (f4Of w))
  | 0b000001#6 => .ok (.fpSubS (f2Of w) (f3Of w) (f4Of w))
  | 0b000010#6 => .ok (.fpMulS (f2Of w) (f3Of w) (f4Of w))
  | 0b000011#6 => .ok (.fpDivS (f2Of w) (f3Of w) (f4Of w))
  | 0b000100#6 => .ok (.fpSqrtS (f3Of w) (f4Of w))
  | 0b000101#6 => .ok (.fpAbsS (f3Of w) (f4Of w))
  | 0b000110#6 => .ok (.fpMovS (f3Of w) (f4Of w))
  | 0b000111#6 => .ok (.fpNegS (f3Of w) (f4Of w))
  | 0b001000#6 => .ok (.fpRoundLS (f3Of w) (f4Of w))
  | 0b001001#6 => .ok (.fpTruncLS (f3Of w) (f4Of w))
  | 0b001010#6 => .ok (.fpCeilLS (f3Of w) (f4Of w))
  | 0b001011#6 => .ok (.fpFloorLS (f3Of w) (f4Of w))
  | 0b001100#6 => .ok (.fpRoundWS (f3Of w) (f4Of w))
  | 0b001101#6 => .ok (.fpTruncWS (f3Of w) (f4Of w))
  | 0b001110#6 => .ok (.fpCeilWS (f3Of w) (f4Of w))
  | 0b001111#6 => .ok (.fpFloorWS (f3Of w) (f4Of w))
  | 0b010001#6 => if tfOf w then .ok (.fpMovtS (ccOf w) (f3Of w) (f4Of w)) else .ok (.fpMovfS (ccOf w) (f3Of w) (f4Of w))
  | 0b010010#6 => .ok (.fpMovzS (f2Of w) (f3Of w) (f4Of w))
  | 0b010011#6 => .ok (.fpMovnS (f2Of w) (f3Of w) (f4Of w))
  | 0b010101#6 => .ok (.fpRecipS (f3Of w) (f4Of w))
  | 0b010110#6 => .ok (.fpRsqrtS (f3Of w) (f4Of w))
  | 0b100001#6 => .ok (.fpCvtDS (f3Of w) (f4Of w))
  | 0b100100#6 => .ok (.fpCvtWS (f3Of w) (f4Of w))
  | 0b100101#6 => .ok (.fpCvtLS (f3Of w) (f4Of w))
  | 0b110000#6 => .ok (.fpCFS (f2Of w) (f3Of w) (cmpCcOf w))
  | 0b110001#6 => .ok (.fpCUnS (f2Of w) (f3Of w) (cmpCcOf w))
  | 0b110010#6 => .ok (.fpCEqS (f2Of w) (f3Of w) (cmpCcOf w))
  | 0b110011#6 => .ok (.fpCUeqS (f2Of w) (f3Of w) (cmpCcOf w))
  | 0b110100#6 => .ok (.fpCOltS (f2Of w) (f3Of w) (cmpCcOf w))
  | 0b110101#6 => .ok (.fpCUltS (f2Of w) (f3Of w) (cmpCcOf w))
  | 0b110110#6 => .ok (.fpCOleS (f2Of w) (f3Of w) (cmpCcOf w))
  | 0b110111#6 => .ok (.fpCUleS (f2Of w) (f3Of w) (cmpCcOf w))
  | 0b111000#6 => .ok (.fpCSfS (f2Of w) (f3Of w) (cmpCcOf w))
  | 0b111001#6 => .ok (.fpCNgleS (f2Of w) (f3Of w) (cmpCcOf w))
  | 0b111010#6 => .ok (.fpCSeqS (f2Of w) (f3Of w) (cmpCcOf w))
  | 0b111011#6 => .ok (.fpCNglS (f2Of w) (f3Of w) (cmpCcOf w))
  | 0b111100#6 => .ok (.fpCLtS (f2Of w) (f3Of w) (cmpCcOf w))
  | 0b111101#6 => .ok (.fpCNgeS (f2Of w) (f3Of w) (cmpCcOf w))
  | 0b111110#6 => .ok (.fpCLeS (f2Of w) (f3Of w) (cmpCcOf w))
  | 0b111111#6 => .ok (.fpCNgtS (f2Of w) (f3Of w) (cmpCcOf w))
  | _ => .error .cop1Unimplemented

/-- COP1 with format D, by bits 5:0 (rule R214). -/
noncomputable def decodeFmtD (w : Word) : Except Reject Instr :=
  match fnOf w with
  | 0b000000#6 => .ok (.fpAddD (f2Of w) (f3Of w) (f4Of w))
  | 0b000001#6 => .ok (.fpSubD (f2Of w) (f3Of w) (f4Of w))
  | 0b000010#6 => .ok (.fpMulD (f2Of w) (f3Of w) (f4Of w))
  | 0b000011#6 => .ok (.fpDivD (f2Of w) (f3Of w) (f4Of w))
  | 0b000100#6 => .ok (.fpSqrtD (f3Of w) (f4Of w))
  | 0b000101#6 => .ok (.fpAbsD (f3Of w) (f4Of w))
  | 0b000110#6 => .ok (.fpMovD (f3Of w) (f4Of w))
  | 0b000111#6 => .ok (.fpNegD (f3Of w) (f4Of w))
  | 0b001000#6 => .ok (.fpRoundLD (f3Of w) (f4Of w))
  | 0b001001#6 => .ok (.fpTruncLD (f3Of w) (f4Of w))
  | 0b001010#6 => .ok (.fpCeilLD (f3Of w) (f4Of w))
  | 0b001011#6 => .ok (.fpFloorLD (f3Of w) (f4Of w))
  | 0b001100#6 => .ok (.fpRoundWD (f3Of w) (f4Of w))
  | 0b001101#6 => .ok (.fpTruncWD (f3Of w) (f4Of w))
  | 0b001110#6 => .ok (.fpCeilWD (f3Of w) (f4Of w))
  | 0b001111#6 => .ok (.fpFloorWD (f3Of w) (f4Of w))
  | 0b010001#6 => if tfOf w then .ok (.fpMovtD (ccOf w) (f3Of w) (f4Of w)) else .ok (.fpMovfD (ccOf w) (f3Of w) (f4Of w))
  | 0b010010#6 => .ok (.fpMovzD (f2Of w) (f3Of w) (f4Of w))
  | 0b010011#6 => .ok (.fpMovnD (f2Of w) (f3Of w) (f4Of w))
  | 0b010101#6 => .ok (.fpRecipD (f3Of w) (f4Of w))
  | 0b010110#6 => .ok (.fpRsqrtD (f3Of w) (f4Of w))
  | 0b100000#6 => .ok (.fpCvtSD (f3Of w) (f4Of w))
  | 0b100100#6 => .ok (.fpCvtWD (f3Of w) (f4Of w))
  | 0b100101#6 => .ok (.fpCvtLD (f3Of w) (f4Of w))
  | 0b110000#6 => .ok (.fpCFD (f2Of w) (f3Of w) (cmpCcOf w))
  | 0b110001#6 => .ok (.fpCUnD (f2Of w) (f3Of w) (cmpCcOf w))
  | 0b110010#6 => .ok (.fpCEqD (f2Of w) (f3Of w) (cmpCcOf w))
  | 0b110011#6 => .ok (.fpCUeqD (f2Of w) (f3Of w) (cmpCcOf w))
  | 0b110100#6 => .ok (.fpCOltD (f2Of w) (f3Of w) (cmpCcOf w))
  | 0b110101#6 => .ok (.fpCUltD (f2Of w) (f3Of w) (cmpCcOf w))
  | 0b110110#6 => .ok (.fpCOleD (f2Of w) (f3Of w) (cmpCcOf w))
  | 0b110111#6 => .ok (.fpCUleD (f2Of w) (f3Of w) (cmpCcOf w))
  | 0b111000#6 => .ok (.fpCSfD (f2Of w) (f3Of w) (cmpCcOf w))
  | 0b111001#6 => .ok (.fpCNgleD (f2Of w) (f3Of w) (cmpCcOf w))
  | 0b111010#6 => .ok (.fpCSeqD (f2Of w) (f3Of w) (cmpCcOf w))
  | 0b111011#6 => .ok (.fpCNglD (f2Of w) (f3Of w) (cmpCcOf w))
  | 0b111100#6 => .ok (.fpCLtD (f2Of w) (f3Of w) (cmpCcOf w))
  | 0b111101#6 => .ok (.fpCNgeD (f2Of w) (f3Of w) (cmpCcOf w))
  | 0b111110#6 => .ok (.fpCLeD (f2Of w) (f3Of w) (cmpCcOf w))
  | 0b111111#6 => .ok (.fpCNgtD (f2Of w) (f3Of w) (cmpCcOf w))
  | _ => .error .cop1Unimplemented

/-- COP1 with format W, by bits 5:0 (rule R214); the conversions to L are reserved instructions in 32-bit user
and supervisor mode whatever their source format (rule R217(a)). -/
def decodeFmtW (w : Word) : Except Reject Instr :=
  match fnOf w with
  | 0b001000#6 => .error .cop1LongInvalid
  | 0b001001#6 => .error .cop1LongInvalid
  | 0b001010#6 => .error .cop1LongInvalid
  | 0b001011#6 => .error .cop1LongInvalid
  | 0b100000#6 => .ok (.fpCvtSW (f3Of w) (f4Of w))
  | 0b100001#6 => .ok (.fpCvtDW (f3Of w) (f4Of w))
  | 0b100101#6 => .error .cop1LongInvalid
  | _ => .error .cop1Unimplemented

/-- COP1 with format L, by bits 5:0 (rule R214); the conversions to L are reserved instructions in 32-bit user
and supervisor mode whatever their source format (rule R217(a)). -/
def decodeFmtL (w : Word) : Except Reject Instr :=
  match fnOf w with
  | 0b001000#6 => .error .cop1LongInvalid
  | 0b001001#6 => .error .cop1LongInvalid
  | 0b001010#6 => .error .cop1LongInvalid
  | 0b001011#6 => .error .cop1LongInvalid
  | 0b100000#6 => .ok (.fpCvtSL (f3Of w) (f4Of w))
  | 0b100001#6 => .ok (.fpCvtDL (f3Of w) (f4Of w))
  | 0b100101#6 => .error .cop1LongInvalid
  | _ => .error .cop1Unimplemented

/-- COP1, by bits 25:21 (rule R214). -/
noncomputable def decodeCop1 (w : Word) : Except Reject Instr :=
  match f1Of w with
  | 0b00000#5 => .ok (.mfc1 (f2Of w) (f3Of w))
  | 0b00001#5 => .ok (.dmfc1 (f2Of w) (f3Of w))
  | 0b00010#5 => .ok (.cfc1 (f2Of w) (f3Of w))
  | 0b00100#5 => .ok (.mtc1 (f2Of w) (f3Of w))
  | 0b00101#5 => .ok (.dmtc1 (f2Of w) (f3Of w))
  | 0b00110#5 => .ok (.ctc1 (f2Of w) (f3Of w))
  | 0b01000#5 => if ndOf w then (if tfOf w then .ok (.bc1tl (ccOf w) (immOf w)) else .ok (.bc1fl (ccOf w) (immOf w))) else (if tfOf w then .ok (.bc1t (ccOf w) (immOf w)) else .ok (.bc1f (ccOf w) (immOf w)))
  | 0b10000#5 => decodeFmtS w
  | 0b10001#5 => decodeFmtD w
  | 0b10100#5 => decodeFmtW w
  | 0b10101#5 => decodeFmtL w
  | _ => .error .cop1Unimplemented

/-- COP1X, by bits 5:0 (rule R214). -/
noncomputable def decodeCop1x (w : Word) : Except Reject Instr :=
  match fnOf w with
  | 0b000000#6 => .ok (.lwxc1 (f1Of w) (f2Of w) (f4Of w))
  | 0b000001#6 => .ok (.ldxc1 (f1Of w) (f2Of w) (f4Of w))
  | 0b000101#6 => .ok (.luxc1 (f1Of w) (f2Of w) (f4Of w))
  | 0b001000#6 => .ok (.swxc1 (f1Of w) (f2Of w) (f3Of w))
  | 0b001001#6 => .ok (.sdxc1 (f1Of w) (f2Of w) (f3Of w))
  | 0b001101#6 => .ok (.suxc1 (f1Of w) (f2Of w) (f3Of w))
  | 0b001111#6 => .ok (.prefx (f1Of w) (f2Of w) (f3Of w))
  | 0b100000#6 => .ok (.fpMaddS (f1Of w) (f2Of w) (f3Of w) (f4Of w))
  | 0b100001#6 => .ok (.fpMaddD (f1Of w) (f2Of w) (f3Of w) (f4Of w))
  | 0b101000#6 => .ok (.fpMsubS (f1Of w) (f2Of w) (f3Of w) (f4Of w))
  | 0b101001#6 => .ok (.fpMsubD (f1Of w) (f2Of w) (f3Of w) (f4Of w))
  | 0b110000#6 => .ok (.fpNmaddS (f1Of w) (f2Of w) (f3Of w) (f4Of w))
  | 0b110001#6 => .ok (.fpNmaddD (f1Of w) (f2Of w) (f3Of w) (f4Of w))
  | 0b111000#6 => .ok (.fpNmsubS (f1Of w) (f2Of w) (f3Of w) (f4Of w))
  | 0b111001#6 => .ok (.fpNmsubD (f1Of w) (f2Of w) (f3Of w) (f4Of w))
  | _ => .error .cop1Unimplemented

/-- The instruction a word is, by its major opcode (rules R206, R207), or why it is none. -/
noncomputable def decode (w : Word) : Except Reject Instr :=
  match opOf w with
  | 0b000000#6 => decodeSpecial w
  | 0b000001#6 => decodeRegimm w
  | 0b000010#6 => .ok (.j (targetOf w))
  | 0b000011#6 => .ok (.jal (targetOf w))
  | 0b000100#6 => .ok (.beq (f1Of w) (f2Of w) (immOf w))
  | 0b000101#6 => .ok (.bne (f1Of w) (f2Of w) (immOf w))
  | 0b000110#6 => .ok (.blez (f1Of w) (immOf w))
  | 0b000111#6 => .ok (.bgtz (f1Of w) (immOf w))
  | 0b001000#6 => .ok (.addi (f1Of w) (f2Of w) (immOf w))
  | 0b001001#6 => .ok (.addiu (f1Of w) (f2Of w) (immOf w))
  | 0b001010#6 => .ok (.slti (f1Of w) (f2Of w) (immOf w))
  | 0b001011#6 => .ok (.sltiu (f1Of w) (f2Of w) (immOf w))
  | 0b001100#6 => .ok (.andi (f1Of w) (f2Of w) (immOf w))
  | 0b001101#6 => .ok (.ori (f1Of w) (f2Of w) (immOf w))
  | 0b001110#6 => .ok (.xori (f1Of w) (f2Of w) (immOf w))
  | 0b001111#6 => .ok (.lui (f2Of w) (immOf w))
  | 0b010000#6 => decodeCop0 w
  | 0b010001#6 => decodeCop1 w
  | 0b010010#6 => .error .cop2
  | 0b010011#6 => decodeCop1x w
  | 0b010100#6 => .ok (.beql (f1Of w) (f2Of w) (immOf w))
  | 0b010101#6 => .ok (.bnel (f1Of w) (f2Of w) (immOf w))
  | 0b010110#6 => .ok (.blezl (f1Of w) (immOf w))
  | 0b010111#6 => .ok (.bgtzl (f1Of w) (immOf w))
  | 0b011000#6 => .ok (.daddi (f1Of w) (f2Of w) (immOf w))
  | 0b011001#6 => .ok (.daddiu (f1Of w) (f2Of w) (immOf w))
  | 0b011010#6 => .ok (.ldl (f1Of w) (f2Of w) (immOf w))
  | 0b011011#6 => .ok (.ldr (f1Of w) (f2Of w) (immOf w))
  | 0b011100#6 => decodeSpecial2 w
  | 0b100000#6 => .ok (.lb (f1Of w) (f2Of w) (immOf w))
  | 0b100001#6 => .ok (.lh (f1Of w) (f2Of w) (immOf w))
  | 0b100010#6 => .ok (.lwl (f1Of w) (f2Of w) (immOf w))
  | 0b100011#6 => .ok (.lw (f1Of w) (f2Of w) (immOf w))
  | 0b100100#6 => .ok (.lbu (f1Of w) (f2Of w) (immOf w))
  | 0b100101#6 => .ok (.lhu (f1Of w) (f2Of w) (immOf w))
  | 0b100110#6 => .ok (.lwr (f1Of w) (f2Of w) (immOf w))
  | 0b100111#6 => .ok (.lwu (f1Of w) (f2Of w) (immOf w))
  | 0b101000#6 => .ok (.sb (f1Of w) (f2Of w) (immOf w))
  | 0b101001#6 => .ok (.sh (f1Of w) (f2Of w) (immOf w))
  | 0b101010#6 => .ok (.swl (f1Of w) (f2Of w) (immOf w))
  | 0b101011#6 => .ok (.sw (f1Of w) (f2Of w) (immOf w))
  | 0b101100#6 => .ok (.sdl (f1Of w) (f2Of w) (immOf w))
  | 0b101101#6 => .ok (.sdr (f1Of w) (f2Of w) (immOf w))
  | 0b101110#6 => .ok (.swr (f1Of w) (f2Of w) (immOf w))
  | 0b101111#6 => .ok (.cache (f1Of w) (f2Of w) (immOf w))
  | 0b110000#6 => .ok (.ll (f1Of w) (f2Of w) (immOf w))
  | 0b110001#6 => .ok (.lwc1 (f1Of w) (f2Of w) (immOf w))
  | 0b110011#6 => .ok (.pref (f1Of w) (f2Of w) (immOf w))
  | 0b110100#6 => .ok (.lld (f1Of w) (f2Of w) (immOf w))
  | 0b110101#6 => .ok (.ldc1 (f1Of w) (f2Of w) (immOf w))
  | 0b110111#6 => .ok (.ld (f1Of w) (f2Of w) (immOf w))
  | 0b111000#6 => .ok (.sc (f1Of w) (f2Of w) (immOf w))
  | 0b111001#6 => .ok (.swc1 (f1Of w) (f2Of w) (immOf w))
  | 0b111100#6 => .ok (.scd (f1Of w) (f2Of w) (immOf w))
  | 0b111101#6 => .ok (.sdc1 (f1Of w) (f2Of w) (immOf w))
  | 0b111111#6 => .ok (.sd (f1Of w) (f2Of w) (immOf w))
  | _ => .error .reserved

/-! ## The encoder -/

/-- I-type (rule R201). -/
def packI (op : BitVec 6) (a b : BitVec 5) (imm : BitVec 16) : Word := op ++ a ++ b ++ imm
/-- J-type (rule R202). -/
def packJ (op : BitVec 6) (target : BitVec 26) : Word := op ++ target
/-- R-type and the coprocessor formats of six fields (rules R203, R204). -/
def packR (op : BitVec 6) (a b c d : BitVec 5) (fn : BitVec 6) : Word := op ++ a ++ b ++ c ++ d ++ fn
/-- A 20-bit code between opcode and function (SYSCALL, BREAK, the CP0 operations). -/
def packCode (op : BitVec 6) (code : BitVec 20) (fn : BitVec 6) : Word := op ++ code ++ fn
/-- The register traps: a 10-bit code before the function. -/
def packTrap (op : BitVec 6) (a b : BitVec 5) (code : BitVec 10) (fn : BitVec 6) : Word :=
  op ++ a ++ b ++ code ++ fn
/-- Bits 20:16 of a branch or conditional move on a condition bit: cc, nd, tf (rule R204). -/
def packCc (cc : BitVec 3) (nd tf : BitVec 1) : BitVec 5 := cc ++ nd ++ tf
/-- Bits 10:6 of a compare: cc and two zeros (47_fpu_arith.md rule R895). -/
def packCmpCc (cc : BitVec 3) : BitVec 5 := cc ++ 0#2
/-- Bits 5:0 of a performance-counter move: reg and the counter bit (45_cp0_system.md rules R706 to R709). -/
def packPerf (reg : BitVec 5) (counter : BitVec 1) : BitVec 6 := reg ++ counter
/-- Bits 25:6 of WAIT: CO and its code (45_cp0_system.md rule R735). -/
def packWait (code : BitVec 19) : BitVec 20 := 1#1 ++ code

/-- The word of an instruction, every field that is not decoded zero (rules R201 to R205, the rows of the
opcode table). -/
def encode : Instr → Word
  | .addi rs rt imm => packI 0b001000#6 rs rt imm
  | .addiu rs rt imm => packI 0b001001#6 rs rt imm
  | .slti rs rt imm => packI 0b001010#6 rs rt imm
  | .sltiu rs rt imm => packI 0b001011#6 rs rt imm
  | .andi rs rt imm => packI 0b001100#6 rs rt imm
  | .ori rs rt imm => packI 0b001101#6 rs rt imm
  | .xori rs rt imm => packI 0b001110#6 rs rt imm
  | .daddi rs rt imm => packI 0b011000#6 rs rt imm
  | .daddiu rs rt imm => packI 0b011001#6 rs rt imm
  | .lui rt imm => packI 0b001111#6 0b00000#5 rt imm
  | .lb base rt offset => packI 0b100000#6 base rt offset
  | .lh base rt offset => packI 0b100001#6 base rt offset
  | .lwl base rt offset => packI 0b100010#6 base rt offset
  | .lw base rt offset => packI 0b100011#6 base rt offset
  | .lbu base rt offset => packI 0b100100#6 base rt offset
  | .lhu base rt offset => packI 0b100101#6 base rt offset
  | .lwr base rt offset => packI 0b100110#6 base rt offset
  | .lwu base rt offset => packI 0b100111#6 base rt offset
  | .sb base rt offset => packI 0b101000#6 base rt offset
  | .sh base rt offset => packI 0b101001#6 base rt offset
  | .swl base rt offset => packI 0b101010#6 base rt offset
  | .sw base rt offset => packI 0b101011#6 base rt offset
  | .sdl base rt offset => packI 0b101100#6 base rt offset
  | .sdr base rt offset => packI 0b101101#6 base rt offset
  | .swr base rt offset => packI 0b101110#6 base rt offset
  | .ldl base rt offset => packI 0b011010#6 base rt offset
  | .ldr base rt offset => packI 0b011011#6 base rt offset
  | .ll base rt offset => packI 0b110000#6 base rt offset
  | .lld base rt offset => packI 0b110100#6 base rt offset
  | .ld base rt offset => packI 0b110111#6 base rt offset
  | .sc base rt offset => packI 0b111000#6 base rt offset
  | .scd base rt offset => packI 0b111100#6 base rt offset
  | .sd base rt offset => packI 0b111111#6 base rt offset
  | .cache base op offset => packI 0b101111#6 base op offset
  | .pref base hint offset => packI 0b110011#6 base hint offset
  | .lwc1 base ft offset => packI 0b110001#6 base ft offset
  | .ldc1 base ft offset => packI 0b110101#6 base ft offset
  | .swc1 base ft offset => packI 0b111001#6 base ft offset
  | .sdc1 base ft offset => packI 0b111101#6 base ft offset
  | .beq rs rt offset => packI 0b000100#6 rs rt offset
  | .bne rs rt offset => packI 0b000101#6 rs rt offset
  | .beql rs rt offset => packI 0b010100#6 rs rt offset
  | .bnel rs rt offset => packI 0b010101#6 rs rt offset
  | .blez rs offset => packI 0b000110#6 rs 0b00000#5 offset
  | .bgtz rs offset => packI 0b000111#6 rs 0b00000#5 offset
  | .blezl rs offset => packI 0b010110#6 rs 0b00000#5 offset
  | .bgtzl rs offset => packI 0b010111#6 rs 0b00000#5 offset
  | .bltz rs offset => packI 0b000001#6 rs 0b00000#5 offset
  | .bgez rs offset => packI 0b000001#6 rs 0b00001#5 offset
  | .bltzl rs offset => packI 0b000001#6 rs 0b00010#5 offset
  | .bgezl rs offset => packI 0b000001#6 rs 0b00011#5 offset
  | .bltzal rs offset => packI 0b000001#6 rs 0b10000#5 offset
  | .bgezal rs offset => packI 0b000001#6 rs 0b10001#5 offset
  | .bltzall rs offset => packI 0b000001#6 rs 0b10010#5 offset
  | .bgezall rs offset => packI 0b000001#6 rs 0b10011#5 offset
  | .tgei rs imm => packI 0b000001#6 rs 0b01000#5 imm
  | .tgeiu rs imm => packI 0b000001#6 rs 0b01001#5 imm
  | .tlti rs imm => packI 0b000001#6 rs 0b01010#5 imm
  | .tltiu rs imm => packI 0b000001#6 rs 0b01011#5 imm
  | .teqi rs imm => packI 0b000001#6 rs 0b01100#5 imm
  | .tnei rs imm => packI 0b000001#6 rs 0b01110#5 imm
  | .j target => packJ 0b000010#6 target
  | .jal target => packJ 0b000011#6 target
  | .add rs rt rd => packR 0b000000#6 rs rt rd 0b00000#5 0b100000#6
  | .addu rs rt rd => packR 0b000000#6 rs rt rd 0b00000#5 0b100001#6
  | .sub rs rt rd => packR 0b000000#6 rs rt rd 0b00000#5 0b100010#6
  | .subu rs rt rd => packR 0b000000#6 rs rt rd 0b00000#5 0b100011#6
  | .and rs rt rd => packR 0b000000#6 rs rt rd 0b00000#5 0b100100#6
  | .or rs rt rd => packR 0b000000#6 rs rt rd 0b00000#5 0b100101#6
  | .xor rs rt rd => packR 0b000000#6 rs rt rd 0b00000#5 0b100110#6
  | .nor rs rt rd => packR 0b000000#6 rs rt rd 0b00000#5 0b100111#6
  | .slt rs rt rd => packR 0b000000#6 rs rt rd 0b00000#5 0b101010#6
  | .sltu rs rt rd => packR 0b000000#6 rs rt rd 0b00000#5 0b101011#6
  | .dadd rs rt rd => packR 0b000000#6 rs rt rd 0b00000#5 0b101100#6
  | .daddu rs rt rd => packR 0b000000#6 rs rt rd 0b00000#5 0b101101#6
  | .dsub rs rt rd => packR 0b000000#6 rs rt rd 0b00000#5 0b101110#6
  | .dsubu rs rt rd => packR 0b000000#6 rs rt rd 0b00000#5 0b101111#6
  | .movz rs rt rd => packR 0b000000#6 rs rt rd 0b00000#5 0b001010#6
  | .movn rs rt rd => packR 0b000000#6 rs rt rd 0b00000#5 0b001011#6
  | .sllv rs rt rd => packR 0b000000#6 rs rt rd 0b00000#5 0b000100#6
  | .srav rs rt rd => packR 0b000000#6 rs rt rd 0b00000#5 0b000111#6
  | .dsllv rs rt rd => packR 0b000000#6 rs rt rd 0b00000#5 0b010100#6
  | .dsrav rs rt rd => packR 0b000000#6 rs rt rd 0b00000#5 0b010111#6
  | .srlv rs rt rd => packR 0b000000#6 rs rt rd 0b00000#5 0b000110#6
  | .rorv rs rt rd => packR 0b000000#6 rs rt rd 0b00001#5 0b000110#6
  | .dsrlv rs rt rd => packR 0b000000#6 rs rt rd 0b00000#5 0b010110#6
  | .drorv rs rt rd => packR 0b000000#6 rs rt rd 0b00001#5 0b010110#6
  | .ssnop => packR 0b000000#6 0b00000#5 0b00000#5 0b00000#5 0b00001#5 0b000000#6
  | .sll rt rd sa => packR 0b000000#6 0b00000#5 rt rd sa 0b000000#6
  | .sra rt rd sa => packR 0b000000#6 0b00000#5 rt rd sa 0b000011#6
  | .dsll rt rd sa => packR 0b000000#6 0b00000#5 rt rd sa 0b111000#6
  | .dsra rt rd sa => packR 0b000000#6 0b00000#5 rt rd sa 0b111011#6
  | .dsll32 rt rd sa => packR 0b000000#6 0b00000#5 rt rd sa 0b111100#6
  | .dsra32 rt rd sa => packR 0b000000#6 0b00000#5 rt rd sa 0b111111#6
  | .srl rt rd sa => packR 0b000000#6 0b00000#5 rt rd sa 0b000010#6
  | .ror rt rd sa => packR 0b000000#6 0b00001#5 rt rd sa 0b000010#6
  | .dsrl rt rd sa => packR 0b000000#6 0b00000#5 rt rd sa 0b111010#6
  | .dror rt rd sa => packR 0b000000#6 0b00001#5 rt rd sa 0b111010#6
  | .dsrl32 rt rd sa => packR 0b000000#6 0b00000#5 rt rd sa 0b111110#6
  | .dror32 rt rd sa => packR 0b000000#6 0b00001#5 rt rd sa 0b111110#6
  | .movf rs cc rd => packR 0b000000#6 rs (packCc cc 0b0#1 0b0#1) rd 0b00000#5 0b000001#6
  | .movt rs cc rd => packR 0b000000#6 rs (packCc cc 0b0#1 0b1#1) rd 0b00000#5 0b000001#6
  | .jr rs => packR 0b000000#6 rs 0b00000#5 0b00000#5 0b00000#5 0b001000#6
  | .jalr rs rd => packR 0b000000#6 rs 0b00000#5 rd 0b00000#5 0b001001#6
  | .syscall code => packCode 0b000000#6 code 0b001100#6
  | .breakpoint code => packCode 0b000000#6 code 0b001101#6
  | .sync stype => packR 0b000000#6 0b00000#5 0b00000#5 0b00000#5 stype 0b001111#6
  | .mfhi rd => packR 0b000000#6 0b00000#5 0b00000#5 rd 0b00000#5 0b010000#6
  | .mthi rs => packR 0b000000#6 rs 0b00000#5 0b00000#5 0b00000#5 0b010001#6
  | .mflo rd => packR 0b000000#6 0b00000#5 0b00000#5 rd 0b00000#5 0b010010#6
  | .mtlo rs => packR 0b000000#6 rs 0b00000#5 0b00000#5 0b00000#5 0b010011#6
  | .mult rs rt => packR 0b000000#6 rs rt 0b00000#5 0b00000#5 0b011000#6
  | .multu rs rt => packR 0b000000#6 rs rt 0b00000#5 0b00000#5 0b011001#6
  | .div rs rt => packR 0b000000#6 rs rt 0b00000#5 0b00000#5 0b011010#6
  | .divu rs rt => packR 0b000000#6 rs rt 0b00000#5 0b00000#5 0b011011#6
  | .dmult rs rt => packR 0b000000#6 rs rt 0b00000#5 0b00000#5 0b011100#6
  | .dmultu rs rt => packR 0b000000#6 rs rt 0b00000#5 0b00000#5 0b011101#6
  | .ddiv rs rt => packR 0b000000#6 rs rt 0b00000#5 0b00000#5 0b011110#6
  | .ddivu rs rt => packR 0b000000#6 rs rt 0b00000#5 0b00000#5 0b011111#6
  | .mul rs rt rd => packR 0b000000#6 rs rt rd 0b00001#5 0b011000#6
  | .mulu rs rt rd => packR 0b000000#6 rs rt rd 0b00001#5 0b011001#6
  | .muls rs rt rd => packR 0b000000#6 rs rt rd 0b00011#5 0b011000#6
  | .mulsu rs rt rd => packR 0b000000#6 rs rt rd 0b00011#5 0b011001#6
  | .macc rs rt rd => packR 0b000000#6 rs rt rd 0b00101#5 0b011000#6
  | .maccu rs rt rd => packR 0b000000#6 rs rt rd 0b00101#5 0b011001#6
  | .msac rs rt rd => packR 0b000000#6 rs rt rd 0b00111#5 0b011000#6
  | .msacu rs rt rd => packR 0b000000#6 rs rt rd 0b00111#5 0b011001#6
  | .mulhi rs rt rd => packR 0b000000#6 rs rt rd 0b01001#5 0b011000#6
  | .mulhiu rs rt rd => packR 0b000000#6 rs rt rd 0b01001#5 0b011001#6
  | .mulshi rs rt rd => packR 0b000000#6 rs rt rd 0b01011#5 0b011000#6
  | .mulshiu rs rt rd => packR 0b000000#6 rs rt rd 0b01011#5 0b011001#6
  | .macchi rs rt rd => packR 0b000000#6 rs rt rd 0b01101#5 0b011000#6
  | .macchiu rs rt rd => packR 0b000000#6 rs rt rd 0b01101#5 0b011001#6
  | .msachi rs rt rd => packR 0b000000#6 rs rt rd 0b01111#5 0b011000#6
  | .msachiu rs rt rd => packR 0b000000#6 rs rt rd 0b01111#5 0b011001#6
  | .tge rs rt code => packTrap 0b000000#6 rs rt code 0b110000#6
  | .tgeu rs rt code => packTrap 0b000000#6 rs rt code 0b110001#6
  | .tlt rs rt code => packTrap 0b000000#6 rs rt code 0b110010#6
  | .tltu rs rt code => packTrap 0b000000#6 rs rt code 0b110011#6
  | .teq rs rt code => packTrap 0b000000#6 rs rt code 0b110100#6
  | .tne rs rt code => packTrap 0b000000#6 rs rt code 0b110110#6
  | .madd rs rt => packR 0b011100#6 rs rt 0b00000#5 0b00000#5 0b000000#6
  | .maddu rs rt => packR 0b011100#6 rs rt 0b00000#5 0b00000#5 0b000001#6
  | .msub rs rt => packR 0b011100#6 rs rt 0b00000#5 0b00000#5 0b000100#6
  | .msubu rs rt => packR 0b011100#6 rs rt 0b00000#5 0b00000#5 0b000101#6
  | .mul64 rs rt rd => packR 0b011100#6 rs rt rd 0b00000#5 0b000010#6
  | .clz rs rd => packR 0b011100#6 rs 0b00000#5 rd 0b00000#5 0b100000#6
  | .clo rs rd => packR 0b011100#6 rs 0b00000#5 rd 0b00000#5 0b100001#6
  | .dclz rs rd => packR 0b011100#6 rs 0b00000#5 rd 0b00000#5 0b100100#6
  | .dclo rs rd => packR 0b011100#6 rs 0b00000#5 rd 0b00000#5 0b100101#6
  | .mfpc rt reg => packR 0b010000#6 0b00000#5 rt 0b11001#5 0b00000#5 (packPerf reg 0b1#1)
  | .mfps rt reg => packR 0b010000#6 0b00000#5 rt 0b11001#5 0b00000#5 (packPerf reg 0b0#1)
  | .mtpc rt reg => packR 0b010000#6 0b00100#5 rt 0b11001#5 0b00000#5 (packPerf reg 0b1#1)
  | .mtps rt reg => packR 0b010000#6 0b00100#5 rt 0b11001#5 0b00000#5 (packPerf reg 0b0#1)
  | .mfc0 rt rd => packR 0b010000#6 0b00000#5 rt rd 0b00000#5 0b000000#6
  | .dmfc0 rt rd => packR 0b010000#6 0b00001#5 rt rd 0b00000#5 0b000000#6
  | .mtc0 rt rd => packR 0b010000#6 0b00100#5 rt rd 0b00000#5 0b000000#6
  | .dmtc0 rt rd => packR 0b010000#6 0b00101#5 rt rd 0b00000#5 0b000000#6
  | .bc0f offset => packI 0b010000#6 0b01000#5 0b00000#5 offset
  | .bc0t offset => packI 0b010000#6 0b01000#5 0b00001#5 offset
  | .bc0fl offset => packI 0b010000#6 0b01000#5 0b00010#5 offset
  | .bc0tl offset => packI 0b010000#6 0b01000#5 0b00011#5 offset
  | .tlbr => packCode 0b010000#6 0b10000000000000000000#20 0b000001#6
  | .tlbwi => packCode 0b010000#6 0b10000000000000000000#20 0b000010#6
  | .tlbwr => packCode 0b010000#6 0b10000000000000000000#20 0b000110#6
  | .tlbp => packCode 0b010000#6 0b10000000000000000000#20 0b001000#6
  | .eret => packCode 0b010000#6 0b10000000000000000000#20 0b011000#6
  | .wait code => packCode 0b010000#6 (packWait code) 0b100000#6
  | .mfc1 rt fs => packR 0b010001#6 0b00000#5 rt fs 0b00000#5 0b000000#6
  | .dmfc1 rt fs => packR 0b010001#6 0b00001#5 rt fs 0b00000#5 0b000000#6
  | .cfc1 rt fs => packR 0b010001#6 0b00010#5 rt fs 0b00000#5 0b000000#6
  | .mtc1 rt fs => packR 0b010001#6 0b00100#5 rt fs 0b00000#5 0b000000#6
  | .dmtc1 rt fs => packR 0b010001#6 0b00101#5 rt fs 0b00000#5 0b000000#6
  | .ctc1 rt fs => packR 0b010001#6 0b00110#5 rt fs 0b00000#5 0b000000#6
  | .bc1f cc offset => packI 0b010001#6 0b01000#5 (packCc cc 0b0#1 0b0#1) offset
  | .bc1t cc offset => packI 0b010001#6 0b01000#5 (packCc cc 0b0#1 0b1#1) offset
  | .bc1fl cc offset => packI 0b010001#6 0b01000#5 (packCc cc 0b1#1 0b0#1) offset
  | .bc1tl cc offset => packI 0b010001#6 0b01000#5 (packCc cc 0b1#1 0b1#1) offset
  | .fpAddS ft fs fd => packR 0b010001#6 0b10000#5 ft fs fd 0b000000#6
  | .fpAddD ft fs fd => packR 0b010001#6 0b10001#5 ft fs fd 0b000000#6
  | .fpSubS ft fs fd => packR 0b010001#6 0b10000#5 ft fs fd 0b000001#6
  | .fpSubD ft fs fd => packR 0b010001#6 0b10001#5 ft fs fd 0b000001#6
  | .fpMulS ft fs fd => packR 0b010001#6 0b10000#5 ft fs fd 0b000010#6
  | .fpMulD ft fs fd => packR 0b010001#6 0b10001#5 ft fs fd 0b000010#6
  | .fpDivS ft fs fd => packR 0b010001#6 0b10000#5 ft fs fd 0b000011#6
  | .fpDivD ft fs fd => packR 0b010001#6 0b10001#5 ft fs fd 0b000011#6
  | .fpSqrtS fs fd => packR 0b010001#6 0b10000#5 0b00000#5 fs fd 0b000100#6
  | .fpSqrtD fs fd => packR 0b010001#6 0b10001#5 0b00000#5 fs fd 0b000100#6
  | .fpAbsS fs fd => packR 0b010001#6 0b10000#5 0b00000#5 fs fd 0b000101#6
  | .fpAbsD fs fd => packR 0b010001#6 0b10001#5 0b00000#5 fs fd 0b000101#6
  | .fpMovS fs fd => packR 0b010001#6 0b10000#5 0b00000#5 fs fd 0b000110#6
  | .fpMovD fs fd => packR 0b010001#6 0b10001#5 0b00000#5 fs fd 0b000110#6
  | .fpNegS fs fd => packR 0b010001#6 0b10000#5 0b00000#5 fs fd 0b000111#6
  | .fpNegD fs fd => packR 0b010001#6 0b10001#5 0b00000#5 fs fd 0b000111#6
  | .fpRoundLS fs fd => packR 0b010001#6 0b10000#5 0b00000#5 fs fd 0b001000#6
  | .fpRoundLD fs fd => packR 0b010001#6 0b10001#5 0b00000#5 fs fd 0b001000#6
  | .fpTruncLS fs fd => packR 0b010001#6 0b10000#5 0b00000#5 fs fd 0b001001#6
  | .fpTruncLD fs fd => packR 0b010001#6 0b10001#5 0b00000#5 fs fd 0b001001#6
  | .fpCeilLS fs fd => packR 0b010001#6 0b10000#5 0b00000#5 fs fd 0b001010#6
  | .fpCeilLD fs fd => packR 0b010001#6 0b10001#5 0b00000#5 fs fd 0b001010#6
  | .fpFloorLS fs fd => packR 0b010001#6 0b10000#5 0b00000#5 fs fd 0b001011#6
  | .fpFloorLD fs fd => packR 0b010001#6 0b10001#5 0b00000#5 fs fd 0b001011#6
  | .fpRoundWS fs fd => packR 0b010001#6 0b10000#5 0b00000#5 fs fd 0b001100#6
  | .fpRoundWD fs fd => packR 0b010001#6 0b10001#5 0b00000#5 fs fd 0b001100#6
  | .fpTruncWS fs fd => packR 0b010001#6 0b10000#5 0b00000#5 fs fd 0b001101#6
  | .fpTruncWD fs fd => packR 0b010001#6 0b10001#5 0b00000#5 fs fd 0b001101#6
  | .fpCeilWS fs fd => packR 0b010001#6 0b10000#5 0b00000#5 fs fd 0b001110#6
  | .fpCeilWD fs fd => packR 0b010001#6 0b10001#5 0b00000#5 fs fd 0b001110#6
  | .fpFloorWS fs fd => packR 0b010001#6 0b10000#5 0b00000#5 fs fd 0b001111#6
  | .fpFloorWD fs fd => packR 0b010001#6 0b10001#5 0b00000#5 fs fd 0b001111#6
  | .fpRecipS fs fd => packR 0b010001#6 0b10000#5 0b00000#5 fs fd 0b010101#6
  | .fpRecipD fs fd => packR 0b010001#6 0b10001#5 0b00000#5 fs fd 0b010101#6
  | .fpRsqrtS fs fd => packR 0b010001#6 0b10000#5 0b00000#5 fs fd 0b010110#6
  | .fpRsqrtD fs fd => packR 0b010001#6 0b10001#5 0b00000#5 fs fd 0b010110#6
  | .fpCvtWS fs fd => packR 0b010001#6 0b10000#5 0b00000#5 fs fd 0b100100#6
  | .fpCvtWD fs fd => packR 0b010001#6 0b10001#5 0b00000#5 fs fd 0b100100#6
  | .fpCvtLS fs fd => packR 0b010001#6 0b10000#5 0b00000#5 fs fd 0b100101#6
  | .fpCvtLD fs fd => packR 0b010001#6 0b10001#5 0b00000#5 fs fd 0b100101#6
  | .fpCvtSD fs fd => packR 0b010001#6 0b10001#5 0b00000#5 fs fd 0b100000#6
  | .fpCvtSW fs fd => packR 0b010001#6 0b10100#5 0b00000#5 fs fd 0b100000#6
  | .fpCvtSL fs fd => packR 0b010001#6 0b10101#5 0b00000#5 fs fd 0b100000#6
  | .fpCvtDS fs fd => packR 0b010001#6 0b10000#5 0b00000#5 fs fd 0b100001#6
  | .fpCvtDW fs fd => packR 0b010001#6 0b10100#5 0b00000#5 fs fd 0b100001#6
  | .fpCvtDL fs fd => packR 0b010001#6 0b10101#5 0b00000#5 fs fd 0b100001#6
  | .fpMovfS cc fs fd => packR 0b010001#6 0b10000#5 (packCc cc 0b0#1 0b0#1) fs fd 0b010001#6
  | .fpMovfD cc fs fd => packR 0b010001#6 0b10001#5 (packCc cc 0b0#1 0b0#1) fs fd 0b010001#6
  | .fpMovtS cc fs fd => packR 0b010001#6 0b10000#5 (packCc cc 0b0#1 0b1#1) fs fd 0b010001#6
  | .fpMovtD cc fs fd => packR 0b010001#6 0b10001#5 (packCc cc 0b0#1 0b1#1) fs fd 0b010001#6
  | .fpMovzS rt fs fd => packR 0b010001#6 0b10000#5 rt fs fd 0b010010#6
  | .fpMovzD rt fs fd => packR 0b010001#6 0b10001#5 rt fs fd 0b010010#6
  | .fpMovnS rt fs fd => packR 0b010001#6 0b10000#5 rt fs fd 0b010011#6
  | .fpMovnD rt fs fd => packR 0b010001#6 0b10001#5 rt fs fd 0b010011#6
  | .fpCFS ft fs cc => packR 0b010001#6 0b10000#5 ft fs (packCmpCc cc) 0b110000#6
  | .fpCFD ft fs cc => packR 0b010001#6 0b10001#5 ft fs (packCmpCc cc) 0b110000#6
  | .fpCUnS ft fs cc => packR 0b010001#6 0b10000#5 ft fs (packCmpCc cc) 0b110001#6
  | .fpCUnD ft fs cc => packR 0b010001#6 0b10001#5 ft fs (packCmpCc cc) 0b110001#6
  | .fpCEqS ft fs cc => packR 0b010001#6 0b10000#5 ft fs (packCmpCc cc) 0b110010#6
  | .fpCEqD ft fs cc => packR 0b010001#6 0b10001#5 ft fs (packCmpCc cc) 0b110010#6
  | .fpCUeqS ft fs cc => packR 0b010001#6 0b10000#5 ft fs (packCmpCc cc) 0b110011#6
  | .fpCUeqD ft fs cc => packR 0b010001#6 0b10001#5 ft fs (packCmpCc cc) 0b110011#6
  | .fpCOltS ft fs cc => packR 0b010001#6 0b10000#5 ft fs (packCmpCc cc) 0b110100#6
  | .fpCOltD ft fs cc => packR 0b010001#6 0b10001#5 ft fs (packCmpCc cc) 0b110100#6
  | .fpCUltS ft fs cc => packR 0b010001#6 0b10000#5 ft fs (packCmpCc cc) 0b110101#6
  | .fpCUltD ft fs cc => packR 0b010001#6 0b10001#5 ft fs (packCmpCc cc) 0b110101#6
  | .fpCOleS ft fs cc => packR 0b010001#6 0b10000#5 ft fs (packCmpCc cc) 0b110110#6
  | .fpCOleD ft fs cc => packR 0b010001#6 0b10001#5 ft fs (packCmpCc cc) 0b110110#6
  | .fpCUleS ft fs cc => packR 0b010001#6 0b10000#5 ft fs (packCmpCc cc) 0b110111#6
  | .fpCUleD ft fs cc => packR 0b010001#6 0b10001#5 ft fs (packCmpCc cc) 0b110111#6
  | .fpCSfS ft fs cc => packR 0b010001#6 0b10000#5 ft fs (packCmpCc cc) 0b111000#6
  | .fpCSfD ft fs cc => packR 0b010001#6 0b10001#5 ft fs (packCmpCc cc) 0b111000#6
  | .fpCNgleS ft fs cc => packR 0b010001#6 0b10000#5 ft fs (packCmpCc cc) 0b111001#6
  | .fpCNgleD ft fs cc => packR 0b010001#6 0b10001#5 ft fs (packCmpCc cc) 0b111001#6
  | .fpCSeqS ft fs cc => packR 0b010001#6 0b10000#5 ft fs (packCmpCc cc) 0b111010#6
  | .fpCSeqD ft fs cc => packR 0b010001#6 0b10001#5 ft fs (packCmpCc cc) 0b111010#6
  | .fpCNglS ft fs cc => packR 0b010001#6 0b10000#5 ft fs (packCmpCc cc) 0b111011#6
  | .fpCNglD ft fs cc => packR 0b010001#6 0b10001#5 ft fs (packCmpCc cc) 0b111011#6
  | .fpCLtS ft fs cc => packR 0b010001#6 0b10000#5 ft fs (packCmpCc cc) 0b111100#6
  | .fpCLtD ft fs cc => packR 0b010001#6 0b10001#5 ft fs (packCmpCc cc) 0b111100#6
  | .fpCNgeS ft fs cc => packR 0b010001#6 0b10000#5 ft fs (packCmpCc cc) 0b111101#6
  | .fpCNgeD ft fs cc => packR 0b010001#6 0b10001#5 ft fs (packCmpCc cc) 0b111101#6
  | .fpCLeS ft fs cc => packR 0b010001#6 0b10000#5 ft fs (packCmpCc cc) 0b111110#6
  | .fpCLeD ft fs cc => packR 0b010001#6 0b10001#5 ft fs (packCmpCc cc) 0b111110#6
  | .fpCNgtS ft fs cc => packR 0b010001#6 0b10000#5 ft fs (packCmpCc cc) 0b111111#6
  | .fpCNgtD ft fs cc => packR 0b010001#6 0b10001#5 ft fs (packCmpCc cc) 0b111111#6
  | .lwxc1 base index fd => packR 0b010011#6 base index 0b00000#5 fd 0b000000#6
  | .ldxc1 base index fd => packR 0b010011#6 base index 0b00000#5 fd 0b000001#6
  | .luxc1 base index fd => packR 0b010011#6 base index 0b00000#5 fd 0b000101#6
  | .swxc1 base index fs => packR 0b010011#6 base index fs 0b00000#5 0b001000#6
  | .sdxc1 base index fs => packR 0b010011#6 base index fs 0b00000#5 0b001001#6
  | .suxc1 base index fs => packR 0b010011#6 base index fs 0b00000#5 0b001101#6
  | .prefx base index hint => packR 0b010011#6 base index hint 0b00000#5 0b001111#6
  | .fpMaddS fr ft fs fd => packR 0b010011#6 fr ft fs fd 0b100000#6
  | .fpMaddD fr ft fs fd => packR 0b010011#6 fr ft fs fd 0b100001#6
  | .fpMsubS fr ft fs fd => packR 0b010011#6 fr ft fs fd 0b101000#6
  | .fpMsubD fr ft fs fd => packR 0b010011#6 fr ft fs fd 0b101001#6
  | .fpNmaddS fr ft fs fd => packR 0b010011#6 fr ft fs fd 0b110000#6
  | .fpNmaddD fr ft fs fd => packR 0b010011#6 fr ft fs fd 0b110001#6
  | .fpNmsubS fr ft fs fd => packR 0b010011#6 fr ft fs fd 0b111000#6
  | .fpNmsubD fr ft fs fd => packR 0b010011#6 fr ft fs fd 0b111001#6

/-! ## Bytes -/

/-- The word whose four bytes stand at rising addresses, in little-endian or big-endian order (20_memory.md
rule R101; instruction fetches use the byte order of data, rule R100). -/
def wordOfBytes (bigEndian : Bool) (b0 b1 b2 b3 : Byte) : Word :=
  if bigEndian then b0 ++ b1 ++ b2 ++ b3 else b3 ++ b2 ++ b1 ++ b0

/-- Byte `i` of a word as it is stored at the word's address plus `i` (20_memory.md rule R101). -/
def byteOfWord (bigEndian : Bool) (w : Word) (i : Nat) : Byte :=
  w.extractLsb' (8 * (if bigEndian then 3 - i else i)) 8

/-- The instruction that four bytes at rising addresses hold. -/
noncomputable def decodeBytes (bigEndian : Bool) (b0 b1 b2 b3 : Byte) : Except Reject Instr :=
  decode (wordOfBytes bigEndian b0 b1 b2 b3)

/-- The instruction the decoder reads from the table word `w` of `nbits` bits, stored as the hardware stores it in
its little-endian order (bit 0 is the least significant bit of the one instruction word; bits from `nbits` on
are zero). -/
noncomputable def decodeTableWord (nbits w : Nat) : Option Instr :=
  let word : Word := BitVec.ofNat 32 (w % 2 ^ nbits)
  match decodeBytes false (byteOfWord false word 0) (byteOfWord false word 1) (byteOfWord false word 2)
      (byteOfWord false word 3) with
  | .ok i => some i
  | .error _ => none

end Sys2Proof
end

