-- ==== Sys2Proof/Config.lean ====
section
/-! DEFINITION. What an implementation fixes (93_implementation_defined.md P1 to P6, 92_eei_decisions.md section 6)
and the source of free values. An `opaque` constant has no body, so nothing can be proved of its value. -/

namespace Sys2Proof.Config

/-- The free values: every value that the spec calls undefined, or does not state, is a draw from here. A draw is
numbered by `State.freeCount` (log 5). -/
opaque freeDword : Nat → Dword

/-- PRId.Imp, the parameter PRID_IMP of 10_state.md rule R25 (log 47). -/
opaque pridImp : BitVec 8
/-- PRId.Rev, the parameter PRID_REV of 10_state.md rule R25 (log 47). -/
opaque pridRev : BitVec 8
/-- FCR0, the parameter FCR0_VALUE of 10_state.md rule R53 (log 47). -/
opaque fcr0Value : Word
/-- Whether event 4 of a performance counter (branch instructions) counts jumps; not stated
(60_exceptions.md rule R1053, log 48). -/
opaque perfCountsJumps : Bool
/-- Whether event 5 of a performance counter (floating-point instructions) counts the loads, stores, moves and branches
of the FPU; not stated (60_exceptions.md rule R1053, log 48). -/
opaque perfCountsFpMove : Bool

/-- FP_DEFAULT_QNAN_S, the spec's default (92_eei_decisions.md D48, log 42). PRESUMED. -/
def defaultQnanS : Word := 0x7FBFFFFF#32
/-- FP_DEFAULT_QNAN_D, the spec's default (92_eei_decisions.md D48, log 42). PRESUMED. -/
def defaultQnanD : Dword := 0x7FF7FFFFFFFFFFFF#64
/-- FP_MADD_FUSED, the spec's default (92_eei_decisions.md D50, log 43). -/
def fpMaddFused : Bool := true
/-- FP_CVT_FLOAT_INF_UNIMPL, the spec's default (92_eei_decisions.md D47, log 44). -/
def fpCvtFloatInfUnimpl : Bool := false

end Sys2Proof.Config
end

