-- ==== Sys2Proof/Machine/State.lean ====
section
/-! DEFINITION. The state of the machine, as 10_state.md gives it, the reasons for which the model stops, and the
state after a cold reset (70_reset_and_hazards.md rule R1100). INVENTORY.md lists every field with its rule. -/

namespace Sys2Proof.Machine

/-! ## Registers of CP0 (10_state.md rules R10 to R35)

A register is the record of its fields; a bit that always reads 0 is no field. `Registers.lean` gives the words. -/

/-- Index (rule R11). -/
structure IndexReg where
  p : Bool
  index : BitVec 6
deriving DecidableEq, Repr

/-- EntryLo0 and EntryLo1 (rule R13). -/
structure EntryLo where
  pfn : BitVec 24
  c : BitVec 3
  d : Bool
  v : Bool
  g : Bool
deriving DecidableEq, Repr

/-- Context (rule R14). -/
structure ContextReg where
  pteBase : BitVec 41
  badVpn2 : BitVec 19
deriving DecidableEq, Repr

/-- EntryHi (rule R19). `fill` is bits 61:40, which only hardware writes (92_eei_decisions.md D22). -/
structure EntryHi where
  r : BitVec 2
  fill : BitVec 22
  vpn2 : BitVec 27
  asid : BitVec 8
deriving DecidableEq, Repr

/-- Status (rules R21, R22). -/
structure Status where
  xx : Bool
  cu2 : Bool
  cu1 : Bool
  cu0 : Bool
  fr : Bool
  dme : Bool
  bev : Bool
  ts : Bool
  sr : Bool
  ch : Bool
  ce : Bool
  de : Bool
  im : BitVec 8
  kx : Bool
  sx : Bool
  ux : Bool
  ksu : BitVec 2
  erl : Bool
  exl : Bool
  ie : Bool
deriving DecidableEq, Repr

/-- The stored bits of Cause (rule R23): IP7 to IP2 follow their inputs and are no storage (rule R45). -/
structure Cause where
  bd : Bool
  ce : BitVec 2
  ip10 : BitVec 2
  excCode : BitVec 5
deriving DecidableEq, Repr

/-- The writable bits of Config (rule R26). -/
structure ConfigReg where
  ep : BitVec 4
  em : BitVec 2
  k0 : BitVec 3
deriving DecidableEq, Repr

/-- WatchLo (rule R28). -/
structure WatchLo where
  paddr0 : BitVec 29
  r : Bool
  w : Bool
deriving DecidableEq, Repr

/-- XContext (rule R29). -/
structure XContextReg where
  pteBase : BitVec 31
  r : BitVec 2
  badVpn2 : BitVec 27
deriving DecidableEq, Repr

/-- A performance-counter control register (rule R30). -/
structure PerfControl where
  event : BitVec 4
  ie : Bool
  u : Bool
  s : Bool
  k : Bool
  exl : Bool
deriving DecidableEq, Repr

/-- The registers of CP0 (rule R10), each under its name. -/
structure Cp0 where
  index : IndexReg
  random : BitVec 6
  entryLo0 : EntryLo
  entryLo1 : EntryLo
  context : ContextReg
  pageMask : BitVec 18
  wired : BitVec 6
  badVAddr : Dword
  count : Word
  entryHi : EntryHi
  compare : Word
  status : Status
  cause : Cause
  epc : Dword
  config : ConfigReg
  llAddr : Word
  watchLo : WatchLo
  watchHi : BitVec 4
  xcontext : XContextReg
  perfCounter0 : Word
  perfCounter1 : Word
  perfControl0 : PerfControl
  perfControl1 : PerfControl
  parityError : BitVec 8
  cacheError : BitVec 7
  tagLo : Word
  tagHi : Word
  errorEpc : Dword
deriving DecidableEq, Repr

/-- An entry of the TLB (rule R41). -/
structure TlbEntry where
  mask : BitVec 18
  r : BitVec 2
  vpn2 : BitVec 27
  g : Bool
  asid : BitVec 8
  pfn0 : BitVec 24
  c0 : BitVec 3
  d0 : Bool
  v0 : Bool
  pfn1 : BitVec 24
  c1 : BitVec 3
  d1 : Bool
  v1 : Bool
deriving DecidableEq, Repr

/-! ## The floating-point unit (10_state.md rules R50 to R58) -/

/-- A floating-point register P[i] of 64 bits, as the two halves that Status.FR pairs (rule R51). -/
structure FpReg where
  hi : Word
  lo : Word
deriving DecidableEq, Repr

/-- FCR31 (rule R54). The bits of `cause` are E V Z O U I from the left, those of `enables` and `flags` V Z O U I. -/
structure Fcr31 where
  cc : BitVec 8
  fs : Bool
  cause : BitVec 6
  enables : BitVec 5
  flags : BitVec 5
  rm : BitVec 2
deriving DecidableEq, Repr

/-! ## Run state, pins and inputs (10_state.md rules R45 to R47) -/

/-- Rule R47; debug mode is outside the spec (00_scope.md rule R74). -/
inductive RunState where
  | running
  | standby
  | held
deriving DecidableEq, Repr

/-- The pins latched at a cold reset (rule R46). -/
structure Pins where
  bigEndian : Bool
  busMode64 : Bool
  tIntSel : Bool
  divMode : BitVec 3
  disDValidO : Bool
  dwbTrans : Bool
  o3Return : Bool
  drvCon : Bool
deriving DecidableEq, Repr

/-- An event of the environment (60_exceptions.md rule R1047). -/
inductive EnvEvent where
  /-- One tick of Count (rule R1050). -/
  | tick
  /-- The inverted levels of Int(5:0)# (rule R1043). -/
  | intPins (levels : BitVec 6)
  /-- A falling edge of NMI# (rule R1044). -/
  | nmiEdge
  /-- An external write of SysAD(22:0) to the interrupt register (rule R1043). -/
  | externalWrite (data : BitVec 23)
  /-- The level of CpCond (43_branch_jump.md rule R628). -/
  | cpCond (level : Bool)
  /-- The read response to this step's fetch reports an error (20_memory.md rule R161). -/
  | busErrorFetch
  /-- The read response to this step's data access reports an error (20_memory.md rule R161). -/
  | busErrorData
  /-- A parity error with the bits ER EC ED ET ES EE EB (rule R1021). -/
  | cacheError (bits : BitVec 7)
  /-- An occurrence of a performance event that timing or the caches decide (rule R1053). -/
  | perfEvent (event : BitVec 4)
  /-- Reset# is asserted: the processor is held in reset (70_reset_and_hazards.md rule R1103). -/
  | resetAsserted
  /-- Reset# is deasserted: a soft reset when it was asserted alone (rule R1101), the start of execution after a cold
  reset (rule R1103). -/
  | resetDeasserted
  /-- ColdReset# is asserted: the processor is held in reset (rule R1103). -/
  | coldResetAsserted
  /-- ColdReset# is deasserted with these levels of the initialization signals: a cold reset (rules R1100, R1104). -/
  | coldResetDeasserted (pins : Pins)
deriving DecidableEq, Repr

/-- The interrupt inputs of rule R45, CpCond, the reset pins, and the requests of the batch of events that this step
delivers. -/
structure Inputs where
  intReg : BitVec 7
  intPin : BitVec 6
  /-- The NMI requests that no NMI exception has answered yet: one is taken for each (60_exceptions.md rule R1044). -/
  nmiPending : Nat
  timerReq : Bool
  cpCond : Bool
  busErrFetch : Bool
  busErrData : Bool
  cacheErr : Option (BitVec 7)
  /-- Reset# is active (70_reset_and_hazards.md rule R1103). -/
  resetPin : Bool
  /-- ColdReset# is active (70_reset_and_hazards.md rule R1103). -/
  coldResetPin : Bool
  /-- A cold reset came while Reset# was active: its release starts execution and is no soft reset (rule R1103). -/
  coldStart : Bool
  softReset : Bool
  coldReset : Option Pins
deriving DecidableEq, Repr

/-- A general exception (60_exceptions.md rule R1002), with what its entry has to record. -/
inductive Exc where
  | interrupt
  | tlbModified (vaddr : Dword)
  /-- `multiple`: two or more entries match, which also sets Status.TS (20_memory.md rule R116). -/
  | tlbRefill (vaddr : Dword) (store multiple : Bool)
  | tlbInvalid (vaddr : Dword) (store : Bool)
  | addressErrorData (vaddr : Dword) (store : Bool)
  | addressErrorFetch (vaddr : Dword)
  | busErrorFetch
  | busErrorData
  | syscall
  | breakpoint
  | reservedInstruction
  | coprocessorUnusable (unit : BitVec 2)
  | overflow
  | trap
  | floatingPoint
  | watch
  /-- TLBP with two or more matches (45_cp0_system.md rule R715, 92_eei_decisions.md D42). -/
  | tlbpMultiple
deriving DecidableEq, Repr

/-! ## The state -/

/-- The machine (10_state.md). The last group of fields is the model's own (log 5, log 6). -/
structure State where
  pc : Dword
  npc : Dword
  inDelay : Bool
  /-- The instruction at `pc` is the delay slot of a JR or JALR (60_exceptions.md rule R1006). -/
  jrSlot : Bool
  /-- `pc` was reached by a JR or JALR (60_exceptions.md rule R1006). -/
  jrTarget : Bool
  gpr : Vector Dword 32
  hi : Dword
  lo : Dword
  /-- A MULT, MULTU, DIV or DIVU has run and no MFHI, MFLO, MTHI or MTLO since (42_muldiv.md rule R514). -/
  hiLoFresh : Bool
  cp0 : Cp0
  llBit : Bool
  /-- The physical address of the last LL or LLD (40_load_store.md rule R328). -/
  linkAddr : PAddr
  /-- A load or store has run since the last LL or LLD (20_memory.md rule R130). -/
  llDisturbed : Bool
  tlb : Vector TlbEntry 48
  fpr : Vector FpReg 32
  fcr31 : Fcr31
  runState : RunState
  pins : Pins
  inputs : Inputs
  /-- The bytes of physical memory that differ from `Memory.unlisted`, by rising address (Memory.lean). -/
  mem : List Host.Cell
  /-- How many free values have been drawn (log 5). -/
  freeCount : Nat
  /-- An exception has been taken in this step (log 8). -/
  raised : Bool
  /-- The events still to come, one batch for each step (log 6). -/
  env : List (List EnvEvent)
deriving DecidableEq, Repr

/-! ## Stops -/

/-- The faults of the model. -/
inductive Fault where
  /-- Raised by WAIT in a branch delay slot or with Status.EXL or Status.ERL set: "The operation of the processor is
  undefined" (45_cp0_system.md rule R735, item U16). Safe: the model stops where the hardware may do anything. -/
  | waitUndefined
deriving DecidableEq, Repr

/-- The refusals of the model: each is an operation that the manual calls undefined without giving it an effect, and
is safe, since the model stops where the hardware may do anything. -/
inductive Refusal where
  /-- Raised by an arm of `exec` that has no meaning yet. Safe. -/
  | notModelled (mnemonic : String)
  /-- Raised by a jump, branch or ERET in a branch delay slot (43_branch_jump.md rule R605, item U1). Safe. -/
  | branchInDelaySlot
  /-- Raised by LL and LLD at an uncached address (40_load_store.md rules R326, R327, item U5). Safe. -/
  | llUncached
  /-- Raised by SC and SCD, with the LL bit set, at an address other than that of the last LL or LLD
  (40_load_store.md rule R328, item U6). Safe. -/
  | scAddressMismatch
  /-- Raised by TLBR and TLBWI with Index above 47 (45_cp0_system.md rule R719, item U14). Safe. -/
  | tlbIndexInvalid
  /-- Raised by TLBWI and TLBWR when PageMask holds a pattern that names no page size (10_state.md rule R15,
  item U10). Safe. -/
  | pageMaskIllegal
  /-- Raised by CACHE with an operation and cache that the manual does not list (45_cp0_system.md rule R740,
  item U15). Safe. -/
  | cacheOpUndefined
  /-- Raised by CACHE at an uncached address (45_cp0_system.md rule R740, item U15). Safe. -/
  | cacheOnUncached
  /-- Raised by DMTC0 to a 32-bit register (45_cp0_system.md rule R705, item U17). Safe. -/
  | dmtc0To32Bit
  /-- Raised by an FPU instruction that names an odd register where Status.FR = 0 has only even ones
  (10_state.md rule R52, item U20). Safe. -/
  | oddFpRegister
  /-- Raised by CTC1 to a reserved control register (46_fpu_move_ls.md rule R817, item U21). Safe. -/
  | ctc1Reserved
  /-- Raised by an indexed FPU load or store whose address leaves the region of its base (46_fpu_move_ls.md
  rule R833, item U22). Safe. -/
  | indexedRegionMismatch
deriving DecidableEq, Repr

/-- What a meaning or a step answers. -/
abbrev Result := Host.Outcome State Fault Refusal

/-! ## Reset -/

/-- The reset vector (10_state.md rule R4). -/
def resetVector : Dword := 0xFFFFFFFFBFC00000#64

/-- Status after a cold reset: ERL = BEV = 1, SR = 0 (10_state.md rule R60); the other bits are the model's
(log 3). DESIGN CHOICE. -/
def Status.reset : Status where
  xx := false
  cu2 := false
  cu1 := false
  cu0 := false
  fr := false
  dme := false
  bev := true
  ts := false
  sr := false
  ch := false
  ce := false
  de := false
  im := 0
  kx := false
  sx := false
  ux := false
  ksu := 0
  erl := true
  exl := false
  ie := false

/-- An EntryLo of zeros. -/
def EntryLo.zero : EntryLo := { pfn := 0, c := 0, d := false, v := false, g := false }

/-- A performance control register of zeros (rule R30). -/
def PerfControl.zero : PerfControl := { event := 0, ie := false, u := false, s := false, k := false, exl := false }

/-- CP0 after a cold reset: Random = 47, Wired = 0, the performance registers 0 (rule R60); the other registers are the
model's (log 3). DESIGN CHOICE. -/
def Cp0.reset : Cp0 where
  index := { p := false, index := 0 }
  random := 47
  entryLo0 := .zero
  entryLo1 := .zero
  context := { pteBase := 0, badVpn2 := 0 }
  pageMask := 0
  wired := 0
  badVAddr := 0
  count := 0
  entryHi := { r := 0, fill := 0, vpn2 := 0, asid := 0 }
  compare := 0
  status := .reset
  cause := { bd := false, ce := 0, ip10 := 0, excCode := 0 }
  epc := 0
  config := { ep := 0, em := 0, k0 := 0 }
  llAddr := 0
  watchLo := { paddr0 := 0, r := false, w := false }
  watchHi := 0
  xcontext := { pteBase := 0, r := 0, badVpn2 := 0 }
  perfCounter0 := 0
  perfCounter1 := 0
  perfControl0 := .zero
  perfControl1 := .zero
  parityError := 0
  cacheError := 0
  tagLo := 0
  tagHi := 0
  errorEpc := 0

/-- A TLB entry of zeros: its pages are invalid (log 3). DESIGN CHOICE. -/
def TlbEntry.zero : TlbEntry where
  mask := 0
  r := 0
  vpn2 := 0
  g := false
  asid := 0
  pfn0 := 0
  c0 := 0
  d0 := false
  v0 := false
  pfn1 := 0
  c1 := 0
  d1 := false
  v1 := false

/-- The pins of `State.reset` (log 1, log 2). DESIGN CHOICE. -/
def Pins.reset : Pins where
  bigEndian := false
  busMode64 := true
  tIntSel := true
  divMode := 0
  disDValidO := false
  dwbTrans := false
  o3Return := false
  drvCon := false

/-- No request pending (rule R60, D26; log 3, log 57). -/
def Inputs.quiet : Inputs where
  intReg := 0
  intPin := 0
  nmiPending := 0
  timerReq := false
  cpCond := false
  busErrFetch := false
  busErrData := false
  cacheErr := none
  resetPin := false
  coldResetPin := false
  coldStart := false
  softReset := false
  coldReset := none

/-- The machine right after a cold reset (70_reset_and_hazards.md rule R1100, 10_state.md rule R60), its memory
with nothing listed and its environment quiet. -/
def State.reset : State where
  pc := resetVector
  npc := resetVector + 4
  inDelay := false
  jrSlot := false
  jrTarget := false
  gpr := Vector.replicate 32 0
  hi := 0
  lo := 0
  hiLoFresh := false
  cp0 := .reset
  llBit := false
  linkAddr := 0
  llDisturbed := false
  tlb := Vector.replicate 48 .zero
  fpr := Vector.replicate 32 { hi := 0, lo := 0 }
  fcr31 := { cc := 0, fs := false, cause := 0, enables := 0, flags := 0, rm := 0 }
  runState := .running
  pins := .reset
  inputs := .quiet
  mem := []
  freeCount := 0
  raised := false
  env := []

end Sys2Proof.Machine
end

