-- ==== Sys2Proof/Machine/Memory.lean ====
section
/-! DEFINITION. Physical memory (20_memory.md rules R100, R101, R118): the bytes of the 36-bit address space, as the
list of those that differ from what an unlisted address reads as. -/

namespace Sys2Proof.Machine

/-- What a byte that nothing has written reads as (log 4). DESIGN CHOICE, unsafe. -/
def Memory.unlisted : Byte := 0

/-- The byte at an address. -/
def Memory.read : List Host.Cell → Nat → Byte
  | [], _ => Memory.unlisted
  | (k, b) :: m, a => if k = a then b else Memory.read m a

/-- List a byte, keeping the addresses in rising order. -/
def Memory.insert : List Host.Cell → Nat → Byte → List Host.Cell
  | [], a, b => [(a, b)]
  | (k, c) :: m, a, b =>
    if a < k then (a, b) :: (k, c) :: m
    else if a = k then (a, b) :: m
    else (k, c) :: Memory.insert m a b

/-- Take an address off the list. -/
def Memory.erase : List Host.Cell → Nat → List Host.Cell
  | [], _ => []
  | (k, c) :: m, a => if k = a then m else (k, c) :: Memory.erase m a

/-- Write one byte, keeping the canonical form `Memory.wf`. -/
def Memory.write (m : List Host.Cell) (a : Nat) (b : Byte) : List Host.Cell :=
  if b = Memory.unlisted then Memory.erase m a else Memory.insert m a b

/-- The list is in canonical form from address `lo` on. -/
def Memory.wfFrom : Nat → List Host.Cell → Bool
  | _, [] => true
  | lo, (k, b) :: m => decide (lo ≤ k) && b != Memory.unlisted && Memory.wfFrom (k + 1) m

/-- The canonical form: addresses strictly rising, no byte listed that reads as an unlisted one. -/
def Memory.wf (m : List Host.Cell) : Bool := Memory.wfFrom 0 m

/-- The `n` bytes from an address on. -/
def Memory.readBytes (m : List Host.Cell) : Nat → Nat → List Byte
  | _, 0 => []
  | a, n + 1 => Memory.read m a :: Memory.readBytes m (a + 1) n

/-- Write bytes from an address on. -/
def Memory.writeBytes (m : List Host.Cell) : Nat → List Byte → List Host.Cell
  | _, [] => m
  | a, b :: bs => Memory.writeBytes (Memory.write m a b) (a + 1) bs

/-- The integer whose bytes stand least significant first. -/
def littleValue : List Byte → Nat
  | [] => 0
  | b :: bs => b.toNat + 256 * littleValue bs

/-- The low `n` bytes of an integer, least significant first. -/
def littleBytes : Nat → Nat → List Byte
  | 0, _ => []
  | n + 1, v => BitVec.ofNat 8 v :: littleBytes n (v / 256)

/-- Bytes at rising addresses, put least significant first (rule R101). -/
def inByteOrder (bigEndian : Bool) (bs : List Byte) : List Byte := if bigEndian then bs.reverse else bs

/-- MemRead of rule R101: an unsigned integer of `n` bytes, `n` at most 8. -/
def Memory.load (bigEndian : Bool) (m : List Host.Cell) (pa : PAddr) (n : Nat) : Dword :=
  BitVec.ofNat 64 (littleValue (inByteOrder bigEndian (Memory.readBytes m pa.toNat n)))

/-- MemWrite of rule R101: the low `n` bytes of a value. -/
def Memory.store (bigEndian : Bool) (m : List Host.Cell) (pa : PAddr) (n : Nat) (v : Dword) : List Host.Cell :=
  Memory.writeBytes m pa.toNat (inByteOrder bigEndian (littleBytes n v.toNat))

end Sys2Proof.Machine
end

