-- ==== Sys2Proof/Machine/Registers.lean ====
section
/-! DEFINITION. The words that the registers of fields are read and written as (10_state.md rules R11 to R34,
R54 to R57). A word is put together from its left end; a write takes the bits of the fields and drops the rest. -/

namespace Sys2Proof.Machine

/-- One bit. -/
def bit (b : Bool) : BitVec 1 := BitVec.ofBool b

/-- Sign extension of a 32-bit result into a register (10_state.md rule R3). -/
def sext (w : Word) : Dword := w.signExtend 64

/-- The low word of a register. -/
def low (v : Dword) : Word := v.setWidth 32

/-- The high word of a register. -/
def high (v : Dword) : Word := v.extractLsb' 32 32

/-! ## CP0 -/

/-- Rule R11. -/
def IndexReg.toWord (x : IndexReg) : Word := bit x.p ++ 0#25 ++ x.index
/-- Rule R11; 45_cp0_system.md rule R710. -/
def IndexReg.ofWord (w : Word) : IndexReg := { p := w.getLsbD 31, index := w.extractLsb' 0 6 }

/-- Rule R13. -/
def EntryLo.toDword (x : EntryLo) : Dword := 0#34 ++ x.pfn ++ x.c ++ bit x.d ++ bit x.v ++ bit x.g
/-- Rule R13. -/
def EntryLo.ofDword (w : Dword) : EntryLo :=
  { pfn := w.extractLsb' 6 24, c := w.extractLsb' 3 3, d := w.getLsbD 2, v := w.getLsbD 1, g := w.getLsbD 0 }

/-- Rule R14. -/
def ContextReg.toDword (x : ContextReg) : Dword := x.pteBase ++ x.badVpn2 ++ 0#4

/-- Rule R15. -/
def pageMaskWord (m : BitVec 18) : Word := 0#1 ++ m ++ 0#13

/-- Rule R19. -/
def EntryHi.toDword (x : EntryHi) : Dword := x.r ++ x.fill ++ x.vpn2 ++ 0#5 ++ x.asid
/-- A software write of EntryHi: the fill bits ignore it (rule R19, log 74). -/
def EntryHi.write (x : EntryHi) (w : Dword) : EntryHi :=
  { x with r := w.extractLsb' 62 2, vpn2 := w.extractLsb' 13 27, asid := w.extractLsb' 0 8 }
/-- The fill bits that hardware writes beside R and VPN2: in 32-bit addressing mode they are part of the address, the
sign extension of its bit 31 (92_eei_decisions.md D22); in 64-bit addressing mode they are 0 (rule R19, log 74). -/
def EntryHi.fillOf (addr64 : Bool) (vaddr : Dword) : BitVec 22 := if addr64 then 0#22 else vaddr.extractLsb' 40 22

/-- Rules R21 and R22; RE and the reserved bits read 0. -/
def Status.toWord (x : Status) : Word :=
  bit x.xx ++ bit x.cu2 ++ bit x.cu1 ++ bit x.cu0 ++ 0#1 ++ bit x.fr ++ 0#1 ++ bit x.dme ++ 0#1 ++ bit x.bev
    ++ bit x.ts ++ bit x.sr ++ 0#1 ++ bit x.ch ++ bit x.ce ++ bit x.de ++ x.im ++ bit x.kx ++ bit x.sx ++ bit x.ux
    ++ x.ksu ++ bit x.erl ++ bit x.exl ++ bit x.ie
/-- Rules R21 and R22: MTC0 writes every field. -/
def Status.ofWord (w : Word) : Status where
  xx := w.getLsbD 31
  cu2 := w.getLsbD 30
  cu1 := w.getLsbD 29
  cu0 := w.getLsbD 28
  fr := w.getLsbD 26
  dme := w.getLsbD 24
  bev := w.getLsbD 22
  ts := w.getLsbD 21
  sr := w.getLsbD 20
  ch := w.getLsbD 18
  ce := w.getLsbD 17
  de := w.getLsbD 16
  im := w.extractLsb' 8 8
  kx := w.getLsbD 7
  sx := w.getLsbD 6
  ux := w.getLsbD 5
  ksu := w.extractLsb' 3 2
  erl := w.getLsbD 2
  exl := w.getLsbD 1
  ie := w.getLsbD 0

/-- Rule R23, with the live bits IP7 to IP0. -/
def Cause.toWord (x : Cause) (ip : BitVec 8) : Word :=
  bit x.bd ++ 0#1 ++ x.ce ++ 0#12 ++ ip ++ 0#1 ++ x.excCode ++ 0#2

/-- PRId (rule R25). -/
def pridWord : Word := 0#16 ++ Config.pridImp ++ Config.pridRev

/-- Config (rule R26): EC from DivMode, EW from BusMode, BE from BigEndian. -/
def ConfigReg.toWord (x : ConfigReg) (p : Pins) : Word :=
  0#1 ++ p.divMode ++ x.ep ++ x.em ++ 0b11#2 ++ (if p.busMode64 then 0b00#2 else 0b01#2) ++ 0b10#2 ++ bit p.bigEndian
    ++ 0b110011011110#12 ++ x.k0
/-- The writable bits 27:22 and 2:0 of Config (rule R26). -/
def ConfigReg.ofWord (w : Word) : ConfigReg :=
  { ep := w.extractLsb' 24 4, em := w.extractLsb' 22 2, k0 := w.extractLsb' 0 3 }

/-- Rule R28. -/
def WatchLo.toWord (x : WatchLo) : Word := x.paddr0 ++ 0#1 ++ bit x.r ++ bit x.w
/-- Rule R28. -/
def WatchLo.ofWord (w : Word) : WatchLo := { paddr0 := w.extractLsb' 3 29, r := w.getLsbD 1, w := w.getLsbD 0 }

/-- Rule R29. -/
def XContextReg.toDword (x : XContextReg) : Dword := x.pteBase ++ x.r ++ x.badVpn2 ++ 0#4

/-- Rule R30. -/
def PerfControl.toWord (x : PerfControl) : Word :=
  0#23 ++ x.event ++ bit x.ie ++ bit x.u ++ bit x.s ++ bit x.k ++ bit x.exl
/-- Rule R30. -/
def PerfControl.ofWord (w : Word) : PerfControl where
  event := w.extractLsb' 5 4
  ie := w.getLsbD 4
  u := w.getLsbD 3
  s := w.getLsbD 2
  k := w.getLsbD 1
  exl := w.getLsbD 0

/-- Rule R32. -/
def cacheErrorWord (x : BitVec 7) : Word := x ++ 0#25

/-! ## The FPU -/

/-- The doubleword of a floating-point register (rule R51). -/
def FpReg.toDword (x : FpReg) : Dword := x.hi ++ x.lo
/-- The register that holds a doubleword (rule R51). -/
def FpReg.ofDword (v : Dword) : FpReg := { hi := high v, lo := low v }

/-- FCR31 (rule R54): CC7 to CC1, FS, CC0, five zeros, cause, enables, flags, RM. -/
def Fcr31.toWord (x : Fcr31) : Word :=
  x.cc.extractLsb' 1 7 ++ bit x.fs ++ x.cc.extractLsb' 0 1 ++ 0#5 ++ x.cause ++ x.enables ++ x.flags ++ x.rm
/-- A write of FCR31 (46_fpu_move_ls.md rule R817). -/
def Fcr31.ofWord (w : Word) : Fcr31 where
  cc := w.extractLsb' 25 7 ++ w.extractLsb' 23 1
  fs := w.getLsbD 24
  cause := w.extractLsb' 12 6
  enables := w.extractLsb' 7 5
  flags := w.extractLsb' 2 5
  rm := w.extractLsb' 0 2

/-- FCR25 (rule R55). -/
def Fcr31.conditionWord (x : Fcr31) : Word := 0#24 ++ x.cc
/-- FCR26 (rule R56). -/
def Fcr31.causeFlagWord (x : Fcr31) : Word := 0#14 ++ x.cause ++ 0#5 ++ x.flags ++ 0#2
/-- FCR28 (rule R57). -/
def Fcr31.enableModeWord (x : Fcr31) : Word := 0#20 ++ x.enables ++ 0#4 ++ bit x.fs ++ x.rm

/-- A write of FCR25 (rule R55). -/
def Fcr31.withCondition (x : Fcr31) (w : Word) : Fcr31 := { x with cc := w.extractLsb' 0 8 }
/-- A write of FCR26 (rule R56). -/
def Fcr31.withCauseFlag (x : Fcr31) (w : Word) : Fcr31 :=
  { x with cause := w.extractLsb' 12 6, flags := w.extractLsb' 2 5 }
/-- A write of FCR28 (rule R57). -/
def Fcr31.withEnableMode (x : Fcr31) (w : Word) : Fcr31 :=
  { x with enables := w.extractLsb' 7 5, fs := w.getLsbD 2, rm := w.extractLsb' 0 2 }

end Sys2Proof.Machine
end

