-- ==== Sys2Proof/Machine/Ops.lean ====
section
/-! DEFINITION. The named operations every meaning is made of: the operating mode, reads and writes of the state,
free values, sequencing, performance counters, interrupts, taking an exception and returning from one. -/

namespace Sys2Proof.Machine

/-! ## Operating mode (10_state.md rules R8, R9) -/

/-- The three modes of rule R8. -/
inductive Mode where
  | kernel
  | supervisor
  | user
deriving DecidableEq, Repr

/-- Rule R8; KSU = 11 is user mode (92_eei_decisions.md D1, log 12). DESIGN CHOICE. -/
def Status.mode (st : Status) : Mode :=
  if st.exl || st.erl then .kernel
  else if st.ksu = 0b00#2 then .kernel
  else if st.ksu = 0b01#2 then .supervisor
  else .user

/-- Is64bitAddr of rule R9. -/
def Status.addr64 (st : Status) : Bool :=
  match st.mode with
  | .kernel => st.kx
  | .supervisor => st.sx
  | .user => st.ux

/-- Is64bitOps of rule R9. -/
def Status.ops64 (st : Status) : Bool :=
  match st.mode with
  | .kernel => true
  | .supervisor => st.sx
  | .user => st.ux

/-- IsMIPS4 of rule R9. -/
def Status.mips4 (st : Status) : Bool :=
  match st.mode with
  | .user => st.xx
  | _ => true

/-- CP0Usable of 45_cp0_system.md rule R700. -/
def Status.cp0Usable (st : Status) : Bool := st.mode == .kernel || st.cu0

/-- The Status register. -/
def State.status (s : State) : Status := s.cp0.status

/-! ## Reads and writes of the state -/

/-- A general register; r0 reads 0 (10_state.md rule R1). -/
def State.reg (s : State) (r : RegNum) : Dword := if r = 0 then 0 else s.gpr[r.toNat]'r.isLt

/-- Write a general register; a write to r0 has no effect (10_state.md rule R1). -/
def State.setReg (s : State) (r : RegNum) (v : Dword) : State :=
  if r = 0 then s else { s with gpr := s.gpr.set r.toNat v r.isLt }

/-- Write HI and LO. -/
def State.setHiLo (s : State) (hi lo : Dword) : State := { s with hi := hi, lo := lo }

/-- Whether MULT, MULTU, DIV or DIVU was the last to touch HI and LO (42_muldiv.md rule R514). -/
def State.setHiLoFresh (s : State) (b : Bool) : State := { s with hiLoFresh := b }

/-- Replace the registers of CP0. -/
def State.setCp0 (s : State) (c : Cp0) : State := { s with cp0 := c }

/-- Replace Status. -/
def State.setStatus (s : State) (st : Status) : State := s.setCp0 { s.cp0 with status := st }

/-- Replace FCR31. -/
def State.setFcr31 (s : State) (f : Fcr31) : State := { s with fcr31 := f }

/-- Floating-point register P[i] (10_state.md rule R51). -/
def State.fp (s : State) (i : FprNum) : FpReg := s.fpr[i.toNat]'i.isLt

/-- Write floating-point register P[i]. -/
def State.setFp (s : State) (i : FprNum) (v : FpReg) : State := { s with fpr := s.fpr.set i.toNat v i.isLt }

/-- Write a TLB entry; an index past the last entry writes none. -/
def State.setTlb (s : State) (i : Nat) (e : TlbEntry) : State := { s with tlb := s.tlb.setIfInBounds i e }

/-- The `n` bytes at a physical address, in the machine's byte order (20_memory.md rule R101). -/
def State.memRead (s : State) (pa : PAddr) (n : Nat) : Dword := Memory.load s.pins.bigEndian s.mem pa n

/-- Store the low `n` bytes of a value at a physical address (20_memory.md rule R101). -/
def State.memWrite (s : State) (pa : PAddr) (n : Nat) (v : Dword) : State :=
  { s with mem := Memory.store s.pins.bigEndian s.mem pa n v }

/-- The byte of memory at an address. -/
def State.byteAt (s : State) (a : Nat) : Byte := Memory.read s.mem a

/-- A load or store has run (20_memory.md rule R130). -/
def State.noteAccess (s : State) : State := { s with llDisturbed := true }

/-- LL and LLD: the LL bit, LLAddr and the address that SC compares (40_load_store.md rule R326, 10_state.md
rule R27). -/
def State.setLink (s : State) (pa : PAddr) : State :=
  { s with llBit := true, linkAddr := pa, llDisturbed := false, cp0 := { s.cp0 with llAddr := pa.extractLsb' 4 32 } }

/-- The run state of 10_state.md rule R47. -/
def State.setRunState (s : State) (r : RunState) : State := { s with runState := r }

/-! ## Free values (log 5) -/

/-- The free value that stands `k` draws ahead. -/
def State.free (s : State) (k : Nat) : Dword := Config.freeDword (s.freeCount + k)

/-- Go past `n` free values. -/
def State.drew (s : State) (n : Nat) : State := { s with freeCount := s.freeCount + n }

/-! ## Sequencing (43_branch_jump.md rules R600 to R603) -/

/-- The end of an instruction that is no jump or branch (rule R600). -/
def State.advance (s : State) : State :=
  { s with pc := s.npc, npc := s.npc + 4, inDelay := false, jrTarget := s.jrSlot, jrSlot := false }

/-- The end of a taken jump or branch (rule R601); `byRegister` for JR and JALR (60_exceptions.md rule R1006). -/
def State.jumpTo (s : State) (target : Dword) (byRegister : Bool) : State :=
  { s with pc := s.npc, npc := target, inDelay := true, jrTarget := s.jrSlot, jrSlot := byRegister }

/-- The end of an ordinary branch that is not taken (rule R601). -/
def State.passBranch (s : State) : State :=
  { s with pc := s.npc, npc := s.npc + 4, inDelay := true, jrTarget := s.jrSlot, jrSlot := false }

/-- The end of a likely branch that is not taken (rule R603). -/
def State.nullify (s : State) : State :=
  { s with pc := s.npc + 4, npc := s.npc + 8, inDelay := false, jrTarget := false, jrSlot := false }

/-- Continue at an address with no delay slot: exception entry, ERET, resets. -/
def State.setPc (s : State) (a : Dword) : State :=
  { s with pc := a, npc := a + 4, inDelay := false, jrTarget := false, jrSlot := false }

/-- The restart address of 60_exceptions.md rule R1003. -/
def State.restart (s : State) : Dword := if s.inDelay then s.pc - 4 else s.pc

/-! ## Performance counters (60_exceptions.md rule R1053, 10_state.md rule R30) -/

/-- Whether a control register selects the present mode (item G6, log 49). PRESUMED. -/
def PerfControl.selects (c : PerfControl) (st : Status) : Bool :=
  if st.exl then c.exl
  else if st.erl then false
  else match st.mode with
    | .kernel => c.k
    | .supervisor => c.s
    | .user => c.u

/-- Whether a counter counts this event now, when it `happens`. -/
def PerfControl.counts (c : PerfControl) (st : Status) (event : BitVec 4) (happens : Bool) : Bool :=
  c.selects st && c.event == event && happens

/-- Whether the increment of a counter that counts requests an interrupt: the carry out of bit 31 with IE set. -/
def PerfControl.overflows (c : PerfControl) (st : Status) (event : BitVec 4) (happens : Bool) (counter : Word) : Bool :=
  c.counts st event happens && c.ie && counter == 0xFFFFFFFF#32

/-- A counter after an event. -/
def PerfControl.step (c : PerfControl) (st : Status) (event : BitVec 4) (happens : Bool) (counter : Word) : Word :=
  if c.counts st event happens then counter + 1 else counter

/-- One occurrence of a performance event, when it `happens` (rule R1053). -/
def State.countWhen (s : State) (event : BitVec 4) (happens : Bool) : State :=
  { s with
    cp0 := { s.cp0 with
      perfCounter0 := s.cp0.perfControl0.step s.status event happens s.cp0.perfCounter0
      perfCounter1 := s.cp0.perfControl1.step s.status event happens s.cp0.perfCounter1 }
    inputs := { s.inputs with
      timerReq := s.cp0.perfControl0.overflows s.status event happens s.cp0.perfCounter0
        || s.cp0.perfControl1.overflows s.status event happens s.cp0.perfCounter1 || s.inputs.timerReq } }

/-- One occurrence of a performance event (rule R1053). -/
def State.countEvent (s : State) (event : BitVec 4) : State := s.countWhen event true

/-! ## Interrupts (60_exceptions.md rule R1040, 10_state.md rule R45) -/

/-- Cause.IP(7:0), live (rule R45). -/
def State.causeIp (s : State) : BitVec 8 :=
  bit (if s.pins.tIntSel then s.inputs.timerReq else (s.inputs.intPin.getLsbD 5 || s.inputs.intReg.getLsbD 5))
    ++ (s.inputs.intPin.extractLsb' 0 5 ||| s.inputs.intReg.extractLsb' 0 5) ++ s.cp0.cause.ip10

/-- IntRequest of rule R1040. -/
def State.intRequest (s : State) : Bool :=
  s.status.ie && !s.status.exl && !s.status.erl && s.causeIp &&& s.status.im != 0

/-! ## Taking an exception (60_exceptions.md rules R1002 to R1019) -/

/-- Cause.ExcCode (rule R1002). -/
def Exc.code : Exc → BitVec 5
  | .interrupt => 0
  | .tlbModified _ => 1
  | .tlbRefill _ store _ => if store then 3 else 2
  | .tlbInvalid _ store => if store then 3 else 2
  | .addressErrorData _ store => if store then 5 else 4
  | .addressErrorFetch _ => 4
  | .busErrorFetch => 6
  | .busErrorData => 7
  | .syscall => 8
  | .breakpoint => 9
  | .reservedInstruction => 10
  | .coprocessorUnusable _ => 11
  | .overflow => 12
  | .trap => 13
  | .floatingPoint => 15
  | .watch => 23
  | .tlbpMultiple => 2

/-- Cause.CE (rule R1014). -/
def Exc.unit : Exc → BitVec 2
  | .coprocessorUnusable unit => unit
  | _ => 0

/-- XRefill of rule R1004: the address that missed selects UX, SX or KX. -/
def Status.xRefill (st : Status) (vaddr : Dword) : Bool :=
  if vaddr.extractLsb' 62 2 = 0b00#2 then st.ux
  else if vaddr.extractLsb' 62 2 = 0b01#2 then st.sx
  else if vaddr.extractLsb' 29 35 = 0x7FFFFFFFE#35 then st.sx
  else st.kx

/-- VectorOffset of rule R1004, from Status as it was before the entry. -/
def Exc.vectorOffset (e : Exc) (st : Status) : Dword :=
  match e with
  | .tlbRefill vaddr _ _ => if st.exl then 0x180#64 else if st.xRefill vaddr then 0x080#64 else 0x000#64
  | _ => 0x180#64

/-- The base of the general vectors (rule R1004). -/
def Status.vectorBase (st : Status) : Dword := if st.bev then 0xFFFFFFFFBFC00200#64 else 0xFFFFFFFF80000000#64

/-- An address whose bits 58:40 are stored as all 0 or all 1 (rule R1006, item U24). -/
def blurAddress (a : Dword) (b : Bool) : Dword :=
  a.extractLsb' 59 5 ++ (if b then BitVec.allOnes 19 else 0#19) ++ a.extractLsb' 0 40

/-- The address registers after an exception of address translation (rule R1007, 92_eei_decisions.md D22). The contents
of EntryLo0 and EntryLo1 are undefined (item U23, log 37). -/
def Cp0.withTlbFault (c : Cp0) (vaddr lo0 lo1 : Dword) : Cp0 :=
  { c with
    badVAddr := vaddr
    context := { c.context with badVpn2 := vaddr.extractLsb' 13 19 }
    xcontext := { c.xcontext with r := vaddr.extractLsb' 62 2, badVpn2 := vaddr.extractLsb' 13 27 }
    entryHi := { c.entryHi with
      r := vaddr.extractLsb' 62 2, fill := EntryHi.fillOf c.status.addr64 vaddr, vpn2 := vaddr.extractLsb' 13 27 }
    entryLo0 := .ofDword lo0
    entryLo1 := .ofDword lo1 }

/-- The address registers after an address error (rule R1006): all but BadVAddr are undefined, EntryHi.ASID is kept
(item U23, log 37, log 74). -/
def Cp0.withAddressError (c : Cp0) (vaddr lo0 lo1 ctx xctx hi : Dword) : Cp0 :=
  { c with
    badVAddr := vaddr
    context := { c.context with badVpn2 := ctx.extractLsb' 0 19 }
    xcontext := { c.xcontext with r := xctx.extractLsb' 62 2, badVpn2 := xctx.extractLsb' 0 27 }
    entryHi := { c.entryHi with
      r := hi.extractLsb' 62 2, fill := EntryHi.fillOf c.status.addr64 hi, vpn2 := hi.extractLsb' 0 27 }
    entryLo0 := .ofDword lo0
    entryLo1 := .ofDword lo1 }

/-- What BadVAddr receives from an address error on a fetch: exact in 32-bit addressing mode and after JR or JALR, else
with bits 58:40 uniform (rule R1006, item U24, log 38). -/
def State.fetchBadVAddr (s : State) (vaddr : Dword) : Dword :=
  if s.status.addr64 && !s.jrTarget then blurAddress vaddr ((s.free 5).getLsbD 0) else vaddr

/-- What an exception writes beyond the general entry (rules R1006 to R1011, R1022; Status.TS by 20_memory.md rule
R116 and 45_cp0_system.md rule R715). A TLBP with several matches keeps EntryLo0 and EntryLo1, which decision D42 does
not name and item U23 calls undefined after a TLB exception (log 76). DESIGN CHOICE. -/
def State.recordCause (s : State) : Exc → State
  | .tlbModified vaddr => (s.setCp0 (s.cp0.withTlbFault vaddr (s.free 0) (s.free 1))).drew 2
  | .tlbInvalid vaddr _ => (s.setCp0 (s.cp0.withTlbFault vaddr (s.free 0) (s.free 1))).drew 2
  | .tlbRefill vaddr _ multiple =>
    let c := s.cp0.withTlbFault vaddr (s.free 0) (s.free 1)
    (s.setCp0 { c with status := { c.status with ts := multiple || c.status.ts } }).drew 2
  | .addressErrorData vaddr _ =>
    (s.setCp0 (s.cp0.withAddressError vaddr (s.free 0) (s.free 1) (s.free 2) (s.free 3) (s.free 4))).drew 5
  | .addressErrorFetch vaddr =>
    (s.setCp0 (s.cp0.withAddressError (s.fetchBadVAddr vaddr) (s.free 0) (s.free 1) (s.free 2) (s.free 3)
      (s.free 4))).drew 7
  | .tlbpMultiple => s.setStatus { s.status with ts := true }
  | _ => s

/-- What EPC receives: the restart address, its bits 58:40 uniform after an address error on a fetch in 64-bit
addressing mode (rules R1003, R1006, item U24, log 38). -/
def State.epcFor (s : State) : Exc → Dword
  | .addressErrorFetch _ =>
    if s.status.addr64 then blurAddress s.restart ((s.free 6).getLsbD 0) else s.restart
  | _ => s.restart

/-- The general exception entry of rule R1003, with the restart address to save. -/
def State.enterGeneral (s : State) (e : Exc) (epc : Dword) : State :=
  let st := s.status
  { (s.setCp0
      { s.cp0 with
        cause := { s.cp0.cause with bd := s.inDelay, ce := e.unit, excCode := e.code }
        epc := if st.exl then s.cp0.epc else epc
        status := { st with exl := true } }).setPc (st.vectorBase + e.vectorOffset st) with
    runState := .running, raised := true }

/-- The performance event of a TLB or XTLB refill (rule R1053, event 7). -/
def State.countRefill (s : State) : Exc → State
  | .tlbRefill _ _ _ => s.countEvent 7
  | .tlbpMultiple => s.countEvent 7
  | _ => s

/-- TAKING AN EXCEPTION (rules R1003, R1006 to R1019): the registers of its cause, then the general entry. -/
def takeException (e : Exc) (s : State) : State := ((s.countRefill e).recordCause e).enterGeneral e (s.epcFor e)

/-- The outcome of an instruction that raises: the exception is taken (rule R1001). -/
def raise (e : Exc) (s : State) : Result := .next (takeException e s)

/-! ## Return from an exception (45_cp0_system.md rule R730) -/

/-- ERET: to ErrorEPC clearing ERL, or to EPC clearing EXL; the LL bit is cleared and there is no delay slot. -/
def exceptionReturn (s : State) : State :=
  let st := s.status
  if st.erl then { (s.setStatus { st with erl := false }).setPc s.cp0.errorEpc with llBit := false }
  else { (s.setStatus { st with exl := false }).setPc s.cp0.epc with llBit := false }

/-! ## Resets, NMI and the cache error (70_reset_and_hazards.md, 60_exceptions.md rule R1021) -/

/-- Soft reset and NMI (rules R1101, R1102). -/
def State.warmEntry (s : State) : State :=
  { (s.setCp0
      { s.cp0 with
        errorEpc := s.restart
        status := { s.status with bev := true, sr := true, erl := true } }).setPc resetVector with
    llBit := false, runState := .running, raised := true }

/-- Cold reset (rule R1100): everything as `State.reset` gives it, but for memory, the levels of Int(5:0)#, CpCond and
the reset pins, the free values already drawn, the events to come and ErrorEPC, which receives the program counter
(log 55). The pins are latched anew (rule R1104), and the processor stays held while Reset# is active (rule R1103). -/
def State.coldResetWith (s : State) (p : Pins) : State :=
  { State.reset with
    cp0 := { Cp0.reset with errorEpc := s.pc }
    inputs := { Inputs.quiet with
      intPin := s.inputs.intPin, cpCond := s.inputs.cpCond, resetPin := s.inputs.resetPin
      coldResetPin := s.inputs.coldResetPin, coldStart := s.inputs.coldStart }
    runState := if s.inputs.resetPin then .held else .running
    pins := p, mem := s.mem, freeCount := s.freeCount, env := s.env, raised := true }

/-- The cache error exception (60_exceptions.md rule R1021). -/
def State.cacheErrorEntry (s : State) (bits : BitVec 7) : State :=
  { (s.setCp0
      { s.cp0 with
        errorEpc := s.restart
        cacheError := bits
        status := { s.status with erl := true } }).setPc
      ((if s.status.bev then 0xFFFFFFFFBFC00200#64 else 0xFFFFFFFFA0000000#64) + 0x100#64) with
    runState := .running, raised := true }

/-! ## Gates (30_encoding.md rule R215) -/

/-- A CP0 instruction: coprocessor 0 must be usable (45_cp0_system.md rule R700). -/
def needCp0 (s : State) (k : Result) : Result := if s.status.cp0Usable then k else raise (.coprocessorUnusable 0) s

/-- An FPU instruction: coprocessor 1 must be usable in every mode (10_state.md rule R50). -/
def needFpu (s : State) (k : Result) : Result := if s.status.cu1 then k else raise (.coprocessorUnusable 1) s

/-- A 64-bit operation (30_encoding.md rule R210). -/
def need64 (s : State) (k : Result) : Result := if s.status.ops64 then k else raise .reservedInstruction s

/-- A MIPS IV instruction of the CPU, or an FPU load, store or prefetch of MIPS IV (30_encoding.md rule R211). -/
def needMips4 (s : State) (k : Result) : Result := if s.status.mips4 then k else raise .reservedInstruction s

/-- A jump, branch or ERET: not in a delay slot (43_branch_jump.md rule R605, item U1). -/
def needNoSlot (s : State) (k : Result) : Result := if s.inDelay then .refused .branchInDelaySlot else k

end Sys2Proof.Machine
end

