-- ==== Sys2Proof/Machine/Tlb.lean ====
section
/-! DEFINITION. Virtual addresses (20_memory.md rules R104 to R121): which are legal, which segment they are in, the
TLB lookup and the physical address; and the records that the TLB instructions move (45_cp0_system.md section 3). -/

namespace Sys2Proof.Machine

/-! ## Legal addresses and segments -/

/-- AddrLegal of rule R106. -/
def addrLegal (st : Status) (va : Dword) : Bool :=
  if st.addr64 then
    match st.mode with
    | .user => va.extractLsb' 40 24 = 0
    | .supervisor => (!va.getLsbD 63 && va.extractLsb' 40 22 = 0) || va.extractLsb' 29 35 = 0x7FFFFFFFE#35
    | .kernel =>
      if !va.getLsbD 63 then va.extractLsb' 40 22 = 0
      else if !va.getLsbD 62 then va.extractLsb' 36 23 = 0
      else va.toNat ≤ 0xC00000FF7FFFFFFF || 0xFFFFFFFF80000000 ≤ va.toNat
  else
    sext (low va) = va && match st.mode with
      | .user => !va.getLsbD 31
      | .supervisor => !va.getLsbD 31 || va.extractLsb' 29 3 = 0b110#3
      | .kernel => true

/-- The code of uncached accesses (rule R121). -/
def uncachedAttr : CacheAttr := 2

/-- The cacheable codes of rule R121. The reserved codes 0 and 6 act as uncached (item U12, log 14). DESIGN CHOICE. -/
def isCacheable (a : CacheAttr) : Bool := a = 1 || a = 3 || a = 4 || a = 5

/-- A segment as `DataAddr` needs it (rule R105): unmapped, with its physical address and attribute, or mapped by
the TLB. -/
inductive Segment where
  | unmapped (pa : PAddr) (attr : CacheAttr)
  | mapped
deriving DecidableEq, Repr

/-- The segment of a legal address (rules R105, R108 to R110). -/
def segmentOf (st : Status) (k0 : CacheAttr) (va : Dword) : Segment :=
  match st.mode with
  | .kernel =>
    if st.erl && va.toNat < 2 ^ 31 then .unmapped (va.setWidth 36) uncachedAttr
    else if va.extractLsb' 29 35 = 0x7FFFFFFFC#35 then .unmapped (0#7 ++ va.extractLsb' 0 29) k0
    else if va.extractLsb' 29 35 = 0x7FFFFFFFD#35 then .unmapped (0#7 ++ va.extractLsb' 0 29) uncachedAttr
    else if st.addr64 && va.extractLsb' 62 2 = 0b10#2 then .unmapped (va.extractLsb' 0 36) (va.extractLsb' 59 3)
    else .mapped
  | _ => .mapped

/-! ## Lookup (rules R115 to R117) -/

/-- MASK in the place of VPN2 bits. -/
def vpnMask (mask : BitVec 18) : BitVec 27 := 0#9 ++ mask

/-- Whether an entry matches a page number and ASID (rule R115): in 64-bit addressing mode region and all of VPN2,
in 32-bit addressing mode the low 19 bits of VPN2. -/
def TlbEntry.hits (e : TlbEntry) (wide : Bool) (r : BitVec 2) (vpn2 : BitVec 27) (asid : BitVec 8) : Bool :=
  (e.g || e.asid = asid) &&
    (if wide then e.r = r && (vpn2 &&& ~~~vpnMask e.mask) = (e.vpn2 &&& ~~~vpnMask e.mask)
     else (vpn2 &&& ~~~vpnMask e.mask).setWidth 19 = (e.vpn2 &&& ~~~vpnMask e.mask).setWidth 19)

/-- The entries that match, with their numbers. -/
def State.tlbHits (s : State) (r : BitVec 2) (vpn2 : BitVec 27) : List (TlbEntry × Nat) :=
  s.tlb.toList.zipIdx.filter fun e => e.1.hits s.status.addr64 r vpn2 s.cp0.entryHi.asid

/-- The outcome of a lookup (rule R115). -/
inductive Lookup where
  | noMatch
  | multipleMatch
  | match_ (e : TlbEntry)
deriving DecidableEq, Repr

/-- TLBLookup of rule R115. -/
def State.tlbLookup (s : State) (va : Dword) : Lookup :=
  match s.tlbHits (va.extractLsb' 62 2) (va.extractLsb' 13 27) with
  | [] => .noMatch
  | [e] => .match_ e.1
  | _ => .multipleMatch

/-- The half of an entry that an address selects. -/
structure PageHalf where
  pfn : BitVec 24
  c : CacheAttr
  d : Bool
  v : Bool
deriving DecidableEq, Repr

/-- The select bit of rule R117: with `2k` low bits of MASK set it is address bit `12 + 2k`, the lowest bit that MASK
leaves clear. -/
def TlbEntry.oddPage (e : TlbEntry) (va : Dword) : Bool :=
  va.extractLsb' 12 19 &&& (e.mask.setWidth 19 + 1) != 0

/-- The even or odd page of an entry (rule R117). -/
def TlbEntry.half (e : TlbEntry) (va : Dword) : PageHalf :=
  if e.oddPage va then { pfn := e.pfn1, c := e.c1, d := e.d1, v := e.v1 }
  else { pfn := e.pfn0, c := e.c0, d := e.d0, v := e.v0 }

/-- PhysAddr of rule R117: the page frame with the bits under MASK, and the twelve below, from the address. -/
def physAddr (pfn : BitVec 24) (mask : BitVec 18) (va : Dword) : PAddr :=
  ((pfn &&& ~~~mask.setWidth 24) ||| (va.extractLsb' 12 24 &&& mask.setWidth 24)) ++ va.extractLsb' 0 12

/-- The physical address on the bus: bits 35:32 are ignored in 32-bit bus mode (rule R118). -/
def Pins.busAddr (p : Pins) (pa : PAddr) : PAddr := if p.busMode64 then pa else 0#4 ++ pa.extractLsb' 0 32

/-- Steps 2 to 6 of `DataAddr` (rule R111), for a legal address. -/
def State.translate (s : State) (va : Dword) (store : Bool) : Except Exc (PAddr × CacheAttr) :=
  match segmentOf s.status s.cp0.config.k0 va with
  | .unmapped pa attr => .ok (s.pins.busAddr pa, attr)
  | .mapped =>
    match s.tlbLookup va with
    | .noMatch => .error (.tlbRefill va store false)
    | .multipleMatch => .error (.tlbRefill va store true)
    | .match_ e =>
      let h := e.half va
      if !h.v then .error (.tlbInvalid va store)
      else if store && !h.d then .error (.tlbModified va)
      else .ok (s.pins.busAddr (physAddr h.pfn e.mask va), h.c)

/-- DataAddr of rule R111; `align` is the number of bytes the address must be a multiple of. -/
def State.dataAddr (s : State) (va : Dword) (align : Nat) (store : Bool) : Except Exc (PAddr × CacheAttr) :=
  if va.toNat % align != 0 || !addrLegal s.status va then .error (.addressErrorData va store)
  else s.translate va store

/-- InstrAddr of rule R112. -/
def State.instrAddr (s : State) : Except Exc (PAddr × CacheAttr) :=
  if s.pc.toNat % 4 != 0 || !addrLegal s.status s.pc then .error (.addressErrorFetch s.pc)
  else s.translate s.pc false

/-! ## Entries (45_cp0_system.md rules R715 to R719) -/

/-- The page sizes that PageMask can name (10_state.md rule R15). -/
def legalMask (m : BitVec 18) : Bool :=
  m = 0b000000000000000000#18 || m = 0b000000000000000011#18 || m = 0b000000000000001111#18
    || m = 0b000000000000111111#18 || m = 0b000000000011111111#18 || m = 0b000000001111111111#18
    || m = 0b000000111111111111#18 || m = 0b000011111111111111#18 || m = 0b001111111111111111#18
    || m = 0b111111111111111111#18

/-- MakeEntry of rule R717. -/
def Cp0.makeEntry (c : Cp0) : TlbEntry where
  mask := c.pageMask
  r := c.entryHi.r
  vpn2 := c.entryHi.vpn2 &&& ~~~vpnMask c.pageMask
  g := c.entryLo0.g && c.entryLo1.g
  asid := c.entryHi.asid
  pfn0 := c.entryLo0.pfn
  c0 := c.entryLo0.c
  d0 := c.entryLo0.d
  v0 := c.entryLo0.v
  pfn1 := c.entryLo1.pfn
  c1 := c.entryLo1.c
  d1 := c.entryLo1.d
  v1 := c.entryLo1.v

/-- EntryHi after TLBR (rule R716): in 32-bit addressing mode the bits above 31 are the sign extension of bit 31
(92_eei_decisions.md D22). -/
def TlbEntry.entryHi (e : TlbEntry) (wide : Bool) : EntryHi :=
  let v := e.vpn2 &&& ~~~vpnMask e.mask
  if wide then { r := e.r, fill := 0, vpn2 := v, asid := e.asid }
  else
    let sign := v.extractLsb' 18 1
    { r := sign.signExtend 2, fill := sign.signExtend 22, vpn2 := (v.setWidth 19).signExtend 27, asid := e.asid }

/-- TLBR (rule R716). -/
def Cp0.withEntry (c : Cp0) (e : TlbEntry) : Cp0 :=
  { c with
    pageMask := e.mask
    entryHi := e.entryHi c.status.addr64
    entryLo1 := { pfn := e.pfn1, c := e.c1, d := e.d1, v := e.v1, g := e.g }
    entryLo0 := { pfn := e.pfn0, c := e.c0, d := e.d0, v := e.v0, g := e.g } }

/-- A draw of Random (10_state.md rule R12, 92_eei_decisions.md D21): a value in Wired..47, or in 0..47 when Wired is
above 47 (log 10, log 11). -/
def drawRandom (wired : BitVec 6) (free : Dword) : BitVec 6 :=
  if wired.toNat ≤ 47 then BitVec.ofNat 6 (wired.toNat + free.toNat % (48 - wired.toNat))
  else BitVec.ofNat 6 (free.toNat % 48)

end Sys2Proof.Machine
end

