-- ==== Sys2Proof/Machine/Operands.lean ====
section
/-! DEFINITION. The operand forms: immediates, effective addresses, data accesses with their checks, CP0 registers as
software reads and writes them, floating-point registers in every width and format. -/

namespace Sys2Proof.Machine

/-! ## Immediates and addresses -/

/-- A sign-extended immediate or offset (41_alu.md section 2, 40_load_store.md rule R300). -/
def simm (imm : BitVec 16) : Dword := imm.signExtend 64

/-- A zero-extended immediate (41_alu.md rules R408 to R410). -/
def zimm (imm : BitVec 16) : Dword := imm.setWidth 64

/-- Base plus offset (40_load_store.md rule R300). -/
def State.effAddr (s : State) (base : RegNum) (offset : BitVec 16) : Dword := s.reg base + simm offset

/-- Base plus index (46_fpu_move_ls.md rule R833). -/
def State.indexedAddr (s : State) (base index : RegNum) : Dword := s.reg base + s.reg index

/-- The target of a conditional branch (43_branch_jump.md rule R602). -/
def State.branchTarget (s : State) (offset : BitVec 16) : Dword := s.pc + 4 + (offset ++ 0#2).signExtend 64

/-- The target of J and JAL (43_branch_jump.md rule R624). -/
def State.jumpTarget (s : State) (target : BitVec 26) : Dword := (s.pc + 4).extractLsb' 28 36 ++ target ++ 0#2

/-- The return address of a linking jump or branch (43_branch_jump.md rule R604). -/
def State.linkValue (s : State) : Dword := s.pc + 8

/-- Whether a register holds a sign-extended 32-bit value (41_alu.md rule R401). -/
def isSext (v : Dword) : Bool := sext (low v) = v

/-! ## Data accesses (40_load_store.md rule R301) -/

/-- WatchHit of 60_exceptions.md rule R1019. -/
def State.watchHit (s : State) (pa : PAddr) (store : Bool) : Bool :=
  pa.extractLsb' 3 33 = s.cp0.watchHi ++ s.cp0.watchLo.paddr0
    && (if store then s.cp0.watchLo.w else s.cp0.watchLo.r)

/-- What the memory system or the watch registers raise after the address checks: a bus error on a read response,
which a store has only when it fills a cache line (60_exceptions.md rule R1010, log 16), then Watch unless EXL is set
(rule R1019, log 56). -/
def State.accessFault (s : State) (pa : PAddr) (attr : CacheAttr) (store : Bool) : Option Exc :=
  if s.inputs.busErrData && (!store || isCacheable attr) then some .busErrorData
  else if s.watchHit pa store && !s.status.exl then some .watch
  else none

/-- One data access (rule R301): the address, then what comes after it, then `k` with the physical address and its
attribute. -/
def withData (s : State) (va : Dword) (align : Nat) (store : Bool) (k : PAddr → CacheAttr → Result) : Result :=
  match s.dataAddr va align store with
  | .error e => raise e s
  | .ok (pa, attr) =>
    match s.accessFault pa attr store with
    | some e => raise e s
    | none => k pa attr

/-- A load of `n` aligned bytes into a general register through `f` (40_load_store.md section 2). -/
def loadReg (s : State) (va : Dword) (n : Nat) (rt : RegNum) (f : Dword → Dword) : Result :=
  withData s va n false fun pa _ => .next ((s.setReg rt (f (s.memRead pa n))).noteAccess.advance)

/-- A store of `n` aligned bytes (40_load_store.md section 4). -/
def storeBytes (s : State) (va : Dword) (n : Nat) (v : Dword) : Result :=
  withData s va n true fun pa _ => .next ((s.memWrite pa n v).noteAccess.advance)

/-- The aligned doubleword that holds an address. -/
def dwordBase (pa : PAddr) : PAddr := pa.extractLsb' 3 33 ++ 0#3

/-- `byte` of the left/right word instructions: address bits 1:0, inverted in big-endian order (rule R314). -/
def State.byteInWord (s : State) (va : Dword) : Nat :=
  if s.pins.bigEndian then 3 - va.toNat % 4 else va.toNat % 4

/-- `word` of the left/right word instructions: address bit 2, inverted in big-endian order (rule R314). -/
def State.wordInDword (s : State) (va : Dword) : Nat :=
  if s.pins.bigEndian then 1 - va.toNat / 4 % 2 else va.toNat / 4 % 2

/-- `byte` of the left/right doubleword instructions (rule R316). -/
def State.byteInDword (s : State) (va : Dword) : Nat :=
  if s.pins.bigEndian then 7 - va.toNat % 8 else va.toNat % 8

/-- The word of a doubleword that the left/right word instructions look at. -/
def State.wordAt (s : State) (pa : PAddr) (va : Dword) : Word :=
  (s.memRead (dwordBase pa) 8).extractLsb' (32 * s.wordInDword va) 32

/-- The first `keep` bits of `old` below the shifted `new`, for the loads that fill from the left (rules R314, R316). -/
def mergeLeft {n : Nat} (new old : BitVec n) (shift : Nat) : BitVec n :=
  new <<< shift ||| old &&& ~~~(BitVec.allOnes n <<< shift)

/-- `new` shifted to the right below the bits of `old` it does not reach (rules R315, R317). -/
def mergeRight {n : Nat} (new old : BitVec n) (shift : Nat) : BitVec n :=
  new >>> shift ||| old &&& ~~~(BitVec.allOnes n >>> shift)

/-- The first byte that a store of the `n` bytes from the most significant end of a left/right store writes: in
little-endian order they end at the address, in big-endian order they begin there (rules R322, R324). -/
def State.leftStoreBase (s : State) (pa : PAddr) (n : Nat) : PAddr :=
  if s.pins.bigEndian then pa else pa - BitVec.ofNat 36 (n - 1)

/-- The same for the `n` bytes from the least significant end (rules R323, R325). -/
def State.rightStoreBase (s : State) (pa : PAddr) (n : Nat) : PAddr :=
  if s.pins.bigEndian then pa - BitVec.ofNat 36 (n - 1) else pa

/-! ## CP0 registers (45_cp0_system.md rules R701 to R710) -/

/-- ReadCP0 of rule R701: a 32-bit register is answered zero-extended, its low word is what counts. The numbers of no
register read as a free value (10_state.md rule R35). -/
def State.readCp0 (s : State) (rd : BitVec 5) : Dword :=
  let c := s.cp0
  if rd = 0 then c.index.toWord.setWidth 64
  else if rd = 1 then (0#26 ++ c.random : Word).setWidth 64
  else if rd = 2 then c.entryLo0.toDword
  else if rd = 3 then c.entryLo1.toDword
  else if rd = 4 then c.context.toDword
  else if rd = 5 then (pageMaskWord c.pageMask).setWidth 64
  else if rd = 6 then (0#26 ++ c.wired : Word).setWidth 64
  else if rd = 8 then c.badVAddr
  else if rd = 9 then c.count.setWidth 64
  else if rd = 10 then c.entryHi.toDword
  else if rd = 11 then c.compare.setWidth 64
  else if rd = 12 then c.status.toWord.setWidth 64
  else if rd = 13 then (c.cause.toWord s.causeIp).setWidth 64
  else if rd = 14 then c.epc
  else if rd = 15 then pridWord.setWidth 64
  else if rd = 16 then (c.config.toWord s.pins).setWidth 64
  else if rd = 17 then c.llAddr.setWidth 64
  else if rd = 18 then c.watchLo.toWord.setWidth 64
  else if rd = 19 then (0#28 ++ c.watchHi : Word).setWidth 64
  else if rd = 20 then c.xcontext.toDword
  else if rd = 25 then c.perfControl0.toWord.setWidth 64
  else if rd = 26 then (0#24 ++ c.parityError : Word).setWidth 64
  else if rd = 27 then (cacheErrorWord c.cacheError).setWidth 64
  else if rd = 28 then c.tagLo.setWidth 64
  else if rd = 29 then c.tagHi.setWidth 64
  else if rd = 30 then c.errorEpc
  else s.free 0

/-- The numbers of no register (10_state.md rule R35). -/
def isReservedCp0 (rd : BitVec 5) : Bool := rd = 7 || rd = 21 || rd = 22 || rd = 23 || rd = 24 || rd = 31

/-- Random moves on before an instruction looks at it (10_state.md rule R12, log 10). -/
def State.freshRandom (s : State) : State :=
  (s.setCp0 { s.cp0 with random := drawRandom s.cp0.wired (s.free 0) }).drew 1

/-- The state in which a move from CP0 reads its register. -/
def State.beforeCp0Read (s : State) (rd : BitVec 5) : State := if rd = 1 then s.freshRandom else s

/-- Move a value of CP0 into a general register through `f`: the reserved numbers draw a free value. -/
def State.moveFromCp0 (s : State) (rt : RegNum) (rd : BitVec 5) (f : Dword → Dword) : State :=
  let t := s.beforeCp0Read rd
  (t.setReg rt (f (t.readCp0 rd))).drew (if isReservedCp0 rd then 1 else 0)

/-- The 64-bit registers (10_state.md rule R10; 45_cp0_system.md rule R704). -/
def isCp0Dword (rd : BitVec 5) : Bool :=
  rd = 2 || rd = 3 || rd = 4 || rd = 8 || rd = 10 || rd = 14 || rd = 20 || rd = 30

/-- The registers of CP0 after WriteCP0 of rule R710. Random, BadVAddr, PRId, the Cache Error register and the
reserved numbers ignore the write. -/
def Cp0.write (c : Cp0) (rd : BitVec 5) (v : Dword) : Cp0 :=
  let w := low v
  if rd = 0 then { c with index := .ofWord w }
  else if rd = 2 then { c with entryLo0 := .ofDword v }
  else if rd = 3 then { c with entryLo1 := .ofDword v }
  else if rd = 4 then { c with context := { c.context with pteBase := v.extractLsb' 23 41 } }
  else if rd = 5 then { c with pageMask := w.extractLsb' 13 18 }
  else if rd = 6 then { c with wired := w.extractLsb' 0 6, random := 47 }
  else if rd = 9 then { c with count := w }
  else if rd = 10 then { c with entryHi := c.entryHi.write v }
  else if rd = 11 then { c with compare := w }
  else if rd = 12 then { c with status := .ofWord w }
  else if rd = 13 then { c with cause := { c.cause with ip10 := w.extractLsb' 8 2 } }
  else if rd = 14 then { c with epc := v }
  else if rd = 16 then { c with config := .ofWord w }
  else if rd = 17 then { c with llAddr := w }
  else if rd = 18 then { c with watchLo := .ofWord w }
  else if rd = 19 then { c with watchHi := w.extractLsb' 0 4 }
  else if rd = 20 then { c with xcontext := { c.xcontext with pteBase := v.extractLsb' 33 31 } }
  else if rd = 25 then { c with perfControl0 := .ofWord w }
  else if rd = 26 then { c with parityError := w.extractLsb' 0 8 }
  else if rd = 28 then { c with tagLo := w }
  else if rd = 29 then { c with tagHi := w }
  else if rd = 30 then { c with errorEpc := v }
  else c

/-- WriteCP0 of rule R710; a write of Compare also clears the timer request (60_exceptions.md rule R1051). -/
def State.writeCp0 (s : State) (rd : BitVec 5) (v : Dword) : State :=
  let t := s.setCp0 (s.cp0.write rd v)
  if rd = 11 then { t with inputs := { t.inputs with timerReq := false } } else t

/-! ## Floating-point registers (10_state.md rules R51, R52; 46_fpu_move_ls.md rules R831, R832) -/

/-- An odd register number where Status.FR = 0 has only even ones (item U20). -/
def State.oddFp (s : State) (i : FprNum) : Bool := !s.status.fr && i.getLsbD 0

/-- The even number of a pair. -/
def evenOf (i : FprNum) : FprNum := i &&& 0b11110#5

/-- ReadFGRWord of rule R831. -/
def State.readFgrWord (s : State) (i : FprNum) : Word :=
  if s.oddFp i then (s.fp (evenOf i)).hi else (s.fp i).lo

/-- WriteFGRWord of rule R831; with FR = 1 the upper half is undefined (item U27, log 41). -/
def State.writeFgrWord (s : State) (i : FprNum) (w : Word) : State :=
  if s.status.fr then (s.setFp i { hi := low (s.free 0), lo := w }).drew 1
  else if i.getLsbD 0 then s.setFp (evenOf i) { s.fp (evenOf i) with hi := w }
  else s.setFp i { s.fp i with lo := w }

/-- ReadFGRDouble of rule R832 for a register that `oddFp` admits. -/
def State.readFgrDouble (s : State) (i : FprNum) : Dword := (s.fp i).toDword

/-- WriteFGRDouble of rule R832 for a register that `oddFp` admits. -/
def State.writeFgrDouble (s : State) (i : FprNum) (v : Dword) : State := s.setFp i (.ofDword v)

/-- StoreFPR of rule R52 for the formats S and W: the partner half is undefined whatever FR is (item U27, log 41). -/
def State.storeFprWord (s : State) (i : FprNum) (w : Word) : State :=
  (s.setFp i { hi := low (s.free 0), lo := w }).drew 1

/-- A load of a word into a floating-point register (46_fpu_move_ls.md rules R800, R805). -/
def loadFgrWord (s : State) (va : Dword) (i : FprNum) : Result :=
  withData s va 4 false fun pa _ => .next ((s.writeFgrWord i (low (s.memRead pa 4))).noteAccess.advance)

/-- A load of a doubleword into a floating-point register (46_fpu_move_ls.md rules R801, R806, R807). -/
def loadFgrDouble (s : State) (va : Dword) (i : FprNum) : Result :=
  withData s va 8 false fun pa _ =>
    if s.oddFp i then .refused .oddFpRegister
    else .next ((s.writeFgrDouble i (s.memRead pa 8)).noteAccess.advance)

/-- A store of a word from a floating-point register (46_fpu_move_ls.md rules R802, R808). -/
def storeFgrWord (s : State) (va : Dword) (i : FprNum) : Result :=
  storeBytes s va 4 ((s.readFgrWord i).setWidth 64)

/-- A store of a doubleword from a floating-point register (46_fpu_move_ls.md rules R803, R809, R810); the data of an
odd register with FR = 0 are undefined (item U20, log 34). -/
def storeFgrDouble (s : State) (va : Dword) (i : FprNum) : Result :=
  withData s va 8 true fun pa _ =>
    if s.oddFp i then .next (((s.memWrite pa 8 (s.free 0)).drew 1).noteAccess.advance)
    else .next ((s.memWrite pa 8 (s.readFgrDouble i)).noteAccess.advance)

/-- An indexed access must stay in the region of its base (46_fpu_move_ls.md rule R833, item U22). -/
def needSameRegion (s : State) (base : RegNum) (va : Dword) (k : Result) : Result :=
  if va.extractLsb' 62 2 = (s.reg base).extractLsb' 62 2 then k else .refused .indexedRegionMismatch

end Sys2Proof.Machine
end

