-- ==== Sys2Proof/Machine/Flags.lean ====
section
/-! DEFINITION. Overflow of the integer instructions (41_alu.md rule R402), the condition codes, cause, enable and flag
bits of FCR31 (47_fpu_arith.md rules R850 to R853), and the common end of every FPU computation. -/

namespace Sys2Proof.Machine

/-! ## Integer overflow -/

/-- Overflow of a 32-bit sum: outside -2^31 .. 2^31 - 1 (rule R402). -/
def addOverflows32 (a b : Word) : Bool := sext a + sext b != sext (a + b)
/-- Overflow of a 32-bit difference (rule R402). -/
def subOverflows32 (a b : Word) : Bool := sext a - sext b != sext (a - b)
/-- Overflow of a 64-bit sum: outside -2^63 .. 2^63 - 1 (rule R402). -/
def addOverflows64 (a b : Dword) : Bool := a.signExtend 65 + b.signExtend 65 != (a + b).signExtend 65
/-- Overflow of a 64-bit difference (rule R402). -/
def subOverflows64 (a b : Dword) : Bool := a.signExtend 65 - b.signExtend 65 != (a - b).signExtend 65

/-! ## Condition codes -/

/-- FPConditionCode of 46_fpu_move_ls.md rule R818. -/
def State.fpCondition (s : State) (cc : BitVec 3) : Bool := s.fcr31.cc.getLsbD cc.toNat

/-- SetFPConditionCode of 47_fpu_arith.md rule R895. -/
def Fcr31.setCondition (f : Fcr31) (cc : BitVec 3) (b : Bool) : Fcr31 :=
  { f with cc := f.cc &&& ~~~(1#8 <<< cc.toNat) ||| (if b then 1#8 <<< cc.toNat else 0) }

/-! ## Cause bits, in the order E V Z O U I (rule R850) -/

/-- No cause. -/
def causeNone : BitVec 6 := 0
/-- Unimplemented operation. -/
def causeE : BitVec 6 := 0b100000#6
/-- Invalid operation. -/
def causeV : BitVec 6 := 0b010000#6
/-- Division by zero. -/
def causeZ : BitVec 6 := 0b001000#6
/-- Overflow, which always comes with inexact (rule R855). -/
def causeOI : BitVec 6 := 0b000101#6
/-- Underflow that is flushed, which comes with inexact (rule R855). -/
def causeUI : BitVec 6 := 0b000011#6
/-- Inexact. -/
def causeI : BitVec 6 := 0b000001#6

/-- Whether cause bits trap: E always, the others with their enable (rule R852). -/
def Fcr31.traps (f : Fcr31) : Bool := f.cause.getLsbD 5 || f.cause.setWidth 5 &&& f.enables != 0

/-- FCR31 with all six cause bits rewritten (rule R851). -/
def Fcr31.setCause (f : Fcr31) (c : BitVec 6) : Fcr31 := { f with cause := c }

/-- FCR31 with the causes accumulated in the flags (rule R853). -/
def Fcr31.accumulate (f : Fcr31) : Fcr31 := { f with flags := f.flags ||| f.cause.setWidth 5 }

/-- FPFinish of rule R850: rewrite the cause bits; trap, or accumulate the flags and do `store`. -/
def fpFinish (s : State) (c : BitVec 6) (store : State → State) : Result :=
  let f := s.fcr31.setCause c
  if f.traps then raise .floatingPoint (s.setFcr31 f)
  else .next (store (s.setFcr31 f.accumulate)).advance

/-- The unimplemented operation exception (rule R856): cause E alone, nothing else changed. -/
def raiseUnimplemented (s : State) : Result := raise .floatingPoint (s.setFcr31 (s.fcr31.setCause causeE))

/-- A floating-point operation of MIPS IV (30_encoding.md rule R217(b)). -/
def needMips4Fp (s : State) (k : Result) : Result := if s.status.mips4 then k else raiseUnimplemented s

/-- A form that is MIPS IV when its condition code is not 0 (30_encoding.md rule R217(b)). -/
def needCc (s : State) (cc : BitVec 3) (k : Result) : Result := if cc = 0 then k else needMips4Fp s k

/-- The registers an FPU operation names are even when Status.FR = 0 (47_fpu_arith.md rule R861, item U20). -/
def needEvenFp (s : State) (regs : List FprNum) (k : Result) : Result :=
  if regs.any s.oddFp then .refused .oddFpRegister else k

end Sys2Proof.Machine
end

