-- ==== Sys2Proof/Machine/Alu.lean ====
section
/-! DEFINITION. Integer arithmetic and logic (41_alu.md sections 2, 3 and 6). Each definition is the operation its rule
prints; a write to r0 is discarded by `State.setReg`. -/

namespace Sys2Proof.Machine

/-! ## Common ends -/

/-- The end of an instruction that writes a general register. -/
def writeReg (s : State) (rd : RegNum) (v : Dword) : Result := .next (s.setReg rd v).advance

/-- The end of a 32-bit operation: the result sign-extended (rule R400). Where an operand is not a sign-extended 32-bit
value the result is undefined (rule R401, item U3, log 18). -/
def writeWord (s : State) (valid : Bool) (rd : RegNum) (w : Word) : Result :=
  if valid then .next (s.setReg rd (sext w)).advance
  else .next ((s.setReg rd (s.free 0)).drew 1).advance

/-- A truth value as a register holds it. -/
def truth (b : Bool) : Dword := if b then 1 else 0

/-- The number of zeros at the left end of the low `k` bits. -/
def leadingZeros (v : Dword) : Nat → Nat
  | 0 => 0
  | k + 1 => if v.getLsbD k then 0 else leadingZeros v k + 1

/-! ## Immediate instructions (section 2) -/

/-- ADDI (rule R404). -/
def execAddi (rs : RegNum) (rt : RegNum) (imm : BitVec 16) (s : State) : Result :=
  if addOverflows32 (low (s.reg rs)) (low (simm imm)) then raise .overflow s
  else writeWord s (isSext (s.reg rs)) rt (low (s.reg rs) + low (simm imm))

/-- ADDIU (rule R405). -/
def execAddiu (rs : RegNum) (rt : RegNum) (imm : BitVec 16) (s : State) : Result :=
  writeWord s (isSext (s.reg rs)) rt (low (s.reg rs) + low (simm imm))

/-- SLTI (rule R406). -/
def execSlti (rs : RegNum) (rt : RegNum) (imm : BitVec 16) (s : State) : Result :=
  writeReg s rt (truth ((s.reg rs).slt (simm imm)))

/-- SLTIU (rule R407). -/
def execSltiu (rs : RegNum) (rt : RegNum) (imm : BitVec 16) (s : State) : Result :=
  writeReg s rt (truth ((s.reg rs).ult (simm imm)))

/-- ANDI (rule R408). -/
def execAndi (rs : RegNum) (rt : RegNum) (imm : BitVec 16) (s : State) : Result :=
  writeReg s rt (s.reg rs &&& zimm imm)

/-- ORI (rule R409). -/
def execOri (rs : RegNum) (rt : RegNum) (imm : BitVec 16) (s : State) : Result :=
  writeReg s rt (s.reg rs ||| zimm imm)

/-- XORI (rule R410). -/
def execXori (rs : RegNum) (rt : RegNum) (imm : BitVec 16) (s : State) : Result :=
  writeReg s rt (s.reg rs ^^^ zimm imm)

/-- LUI (rule R411). -/
def execLui (rt : RegNum) (imm : BitVec 16) (s : State) : Result := writeReg s rt (sext (imm ++ 0#16))

/-- DADDI (rule R412). -/
def execDaddi (rs : RegNum) (rt : RegNum) (imm : BitVec 16) (s : State) : Result :=
  need64 s <|
    if addOverflows64 (s.reg rs) (simm imm) then raise .overflow s else writeReg s rt (s.reg rs + simm imm)

/-- DADDIU (rule R413). -/
def execDaddiu (rs : RegNum) (rt : RegNum) (imm : BitVec 16) (s : State) : Result :=
  need64 s <| writeReg s rt (s.reg rs + simm imm)

/-! ## Three-operand instructions (section 3) -/

/-- ADD (rule R414). -/
def execAdd (rs : RegNum) (rt : RegNum) (rd : RegNum) (s : State) : Result :=
  if addOverflows32 (low (s.reg rs)) (low (s.reg rt)) then raise .overflow s
  else writeWord s (isSext (s.reg rs) && isSext (s.reg rt)) rd (low (s.reg rs) + low (s.reg rt))

/-- ADDU (rule R415). -/
def execAddu (rs : RegNum) (rt : RegNum) (rd : RegNum) (s : State) : Result :=
  writeWord s (isSext (s.reg rs) && isSext (s.reg rt)) rd (low (s.reg rs) + low (s.reg rt))

/-- SUB (rule R416). -/
def execSub (rs : RegNum) (rt : RegNum) (rd : RegNum) (s : State) : Result :=
  if subOverflows32 (low (s.reg rs)) (low (s.reg rt)) then raise .overflow s
  else writeWord s (isSext (s.reg rs) && isSext (s.reg rt)) rd (low (s.reg rs) - low (s.reg rt))

/-- SUBU (rule R417). -/
def execSubu (rs : RegNum) (rt : RegNum) (rd : RegNum) (s : State) : Result :=
  writeWord s (isSext (s.reg rs) && isSext (s.reg rt)) rd (low (s.reg rs) - low (s.reg rt))

/-- SLT (rule R418). -/
def execSlt (rs : RegNum) (rt : RegNum) (rd : RegNum) (s : State) : Result :=
  writeReg s rd (truth ((s.reg rs).slt (s.reg rt)))

/-- SLTU (rule R419). -/
def execSltu (rs : RegNum) (rt : RegNum) (rd : RegNum) (s : State) : Result :=
  writeReg s rd (truth ((s.reg rs).ult (s.reg rt)))

/-- AND (rule R420). -/
def execAnd (rs : RegNum) (rt : RegNum) (rd : RegNum) (s : State) : Result := writeReg s rd (s.reg rs &&& s.reg rt)

/-- OR (rule R421). -/
def execOr (rs : RegNum) (rt : RegNum) (rd : RegNum) (s : State) : Result := writeReg s rd (s.reg rs ||| s.reg rt)

/-- XOR (rule R422). -/
def execXor (rs : RegNum) (rt : RegNum) (rd : RegNum) (s : State) : Result := writeReg s rd (s.reg rs ^^^ s.reg rt)

/-- NOR (rule R423). -/
def execNor (rs : RegNum) (rt : RegNum) (rd : RegNum) (s : State) : Result :=
  writeReg s rd (~~~(s.reg rs ||| s.reg rt))

/-- DADD (rule R424). -/
def execDadd (rs : RegNum) (rt : RegNum) (rd : RegNum) (s : State) : Result :=
  need64 s <|
    if addOverflows64 (s.reg rs) (s.reg rt) then raise .overflow s else writeReg s rd (s.reg rs + s.reg rt)

/-- DADDU (rule R425). -/
def execDaddu (rs : RegNum) (rt : RegNum) (rd : RegNum) (s : State) : Result :=
  need64 s <| writeReg s rd (s.reg rs + s.reg rt)

/-- DSUB (rule R426). -/
def execDsub (rs : RegNum) (rt : RegNum) (rd : RegNum) (s : State) : Result :=
  need64 s <|
    if subOverflows64 (s.reg rs) (s.reg rt) then raise .overflow s else writeReg s rd (s.reg rs - s.reg rt)

/-- DSUBU (rule R427). -/
def execDsubu (rs : RegNum) (rt : RegNum) (rd : RegNum) (s : State) : Result :=
  need64 s <| writeReg s rd (s.reg rs - s.reg rt)

/-- MOVN (rule R428). -/
def execMovn (rs : RegNum) (rt : RegNum) (rd : RegNum) (s : State) : Result :=
  needMips4 s <| if s.reg rt != 0 then writeReg s rd (s.reg rs) else .next s.advance

/-- MOVZ (rule R429). -/
def execMovz (rs : RegNum) (rt : RegNum) (rd : RegNum) (s : State) : Result :=
  needMips4 s <| if s.reg rt = 0 then writeReg s rd (s.reg rs) else .next s.advance

/-! ## Register scan instructions (section 6) -/

/-- CLO (rule R450). -/
def execClo (rs : RegNum) (rd : RegNum) (s : State) : Result :=
  writeWord s (isSext (s.reg rs)) rd (BitVec.ofNat 32 (leadingZeros (~~~s.reg rs) 32))

/-- CLZ (rule R451). -/
def execClz (rs : RegNum) (rd : RegNum) (s : State) : Result :=
  writeWord s (isSext (s.reg rs)) rd (BitVec.ofNat 32 (leadingZeros (s.reg rs) 32))

/-- DCLO (rule R452). -/
def execDclo (rs : RegNum) (rd : RegNum) (s : State) : Result :=
  need64 s <| writeReg s rd (BitVec.ofNat 64 (leadingZeros (~~~s.reg rs) 64))

/-- DCLZ (rule R453). -/
def execDclz (rs : RegNum) (rd : RegNum) (s : State) : Result :=
  need64 s <| writeReg s rd (BitVec.ofNat 64 (leadingZeros (s.reg rs) 64))

end Sys2Proof.Machine
end

