-- ==== Sys2Proof/Machine/Branch.lean ====
section
/-! DEFINITION. Jumps and branches (43_branch_jump.md). -/

namespace Sys2Proof.Machine

/-! ## Common ends (rules R600 to R605) -/

/-- A conditional branch: taken, passed, or its delay slot nullified when it is `likely` and not taken. -/
def branchOn (s : State) (offset : BitVec 16) (taken likely : Bool) : Result :=
  needNoSlot s <|
    .next (if taken then s.jumpTo (s.branchTarget offset) false else if likely then s.nullify else s.passBranch)

/-- A branch that links, taken or not (rule R604); the condition was read before the link is written (rule R614). -/
def branchLinkOn (s : State) (offset : BitVec 16) (taken likely : Bool) : Result :=
  branchOn (s.setReg 31 s.linkValue) offset taken likely

/-- A jump. -/
def jumpOn (s : State) (target : Dword) (byRegister : Bool) : Result :=
  needNoSlot s <| .next (s.jumpTo target byRegister)

/-! ## Branches on registers (sections 2 and 3) -/

/-- BEQ (rule R608). -/
def execBeq (rs : RegNum) (rt : RegNum) (offset : BitVec 16) (s : State) : Result :=
  branchOn s offset (s.reg rs == s.reg rt) false

/-- BNE (rule R609). -/
def execBne (rs : RegNum) (rt : RegNum) (offset : BitVec 16) (s : State) : Result :=
  branchOn s offset (s.reg rs != s.reg rt) false

/-- BLEZ (rule R610). -/
def execBlez (rs : RegNum) (offset : BitVec 16) (s : State) : Result :=
  branchOn s offset ((s.reg rs).msb || s.reg rs == 0) false

/-- BGTZ (rule R611). -/
def execBgtz (rs : RegNum) (offset : BitVec 16) (s : State) : Result :=
  branchOn s offset (!(s.reg rs).msb && s.reg rs != 0) false

/-- BLTZ (rule R612). -/
def execBltz (rs : RegNum) (offset : BitVec 16) (s : State) : Result := branchOn s offset ((s.reg rs).msb) false

/-- BGEZ (rule R613). -/
def execBgez (rs : RegNum) (offset : BitVec 16) (s : State) : Result := branchOn s offset (!(s.reg rs).msb) false

/-- BLTZAL (rule R614). -/
def execBltzal (rs : RegNum) (offset : BitVec 16) (s : State) : Result := branchLinkOn s offset ((s.reg rs).msb) false

/-- BGEZAL (rule R615). -/
def execBgezal (rs : RegNum) (offset : BitVec 16) (s : State) : Result :=
  branchLinkOn s offset (!(s.reg rs).msb) false

/-- BEQL (rule R616). -/
def execBeql (rs : RegNum) (rt : RegNum) (offset : BitVec 16) (s : State) : Result :=
  branchOn s offset (s.reg rs == s.reg rt) true

/-- BNEL (rule R617). -/
def execBnel (rs : RegNum) (rt : RegNum) (offset : BitVec 16) (s : State) : Result :=
  branchOn s offset (s.reg rs != s.reg rt) true

/-- BLEZL (rule R618). -/
def execBlezl (rs : RegNum) (offset : BitVec 16) (s : State) : Result :=
  branchOn s offset ((s.reg rs).msb || s.reg rs == 0) true

/-- BGTZL (rule R619). -/
def execBgtzl (rs : RegNum) (offset : BitVec 16) (s : State) : Result :=
  branchOn s offset (!(s.reg rs).msb && s.reg rs != 0) true

/-- BLTZL (rule R620). -/
def execBltzl (rs : RegNum) (offset : BitVec 16) (s : State) : Result := branchOn s offset ((s.reg rs).msb) true

/-- BGEZL (rule R621). -/
def execBgezl (rs : RegNum) (offset : BitVec 16) (s : State) : Result := branchOn s offset (!(s.reg rs).msb) true

/-- BLTZALL (rule R622). -/
def execBltzall (rs : RegNum) (offset : BitVec 16) (s : State) : Result := branchLinkOn s offset ((s.reg rs).msb) true

/-- BGEZALL (rule R623). -/
def execBgezall (rs : RegNum) (offset : BitVec 16) (s : State) : Result :=
  branchLinkOn s offset (!(s.reg rs).msb) true

/-! ## Jumps (section 4) -/

/-- J (rule R624). -/
def execJ (target : BitVec 26) (s : State) : Result := jumpOn s (s.jumpTarget target) false

/-- JAL (rule R625). -/
def execJal (target : BitVec 26) (s : State) : Result := jumpOn (s.setReg 31 s.linkValue) (s.jumpTarget target) false

/-- JR (rule R626). -/
def execJr (rs : RegNum) (s : State) : Result := jumpOn s (s.reg rs) true

/-- JALR (rule R627); with rs = rd its result, the link and the target, is undefined (item U2, log 22). -/
def execJalr (rs : RegNum) (rd : RegNum) (s : State) : Result :=
  if rs = rd then jumpOn ((s.setReg rd (s.free 0)).drew 2) (s.free 1) true
  else jumpOn (s.setReg rd s.linkValue) (s.reg rs) true

/-! ## Branches on CpCond (section 5) -/

/-- BC0F (rules R628, R629). -/
def execBc0f (offset : BitVec 16) (s : State) : Result := needCp0 s <| branchOn s offset (!s.inputs.cpCond) false

/-- BC0T (rules R628, R630). -/
def execBc0t (offset : BitVec 16) (s : State) : Result := needCp0 s <| branchOn s offset s.inputs.cpCond false

/-- BC0FL (rules R628, R631). -/
def execBc0fl (offset : BitVec 16) (s : State) : Result := needCp0 s <| branchOn s offset (!s.inputs.cpCond) true

/-- BC0TL (rules R628, R632). -/
def execBc0tl (offset : BitVec 16) (s : State) : Result := needCp0 s <| branchOn s offset s.inputs.cpCond true

end Sys2Proof.Machine
end

