-- ==== Sys2Proof/Machine/Cp0.lean ====
section
/-! DEFINITION. The instructions of CP0 but for the branches (45_cp0_system.md). -/

namespace Sys2Proof.Machine

/-! ## Moves (section 2) -/

/-- MFC0 (rule R702). -/
def execMfc0 (rt : RegNum) (rd : RegNum) (s : State) : Result :=
  needCp0 s <| .next (s.moveFromCp0 rt rd fun v => sext (low v)).advance

/-- MTC0 (rule R703). -/
def execMtc0 (rt : RegNum) (rd : RegNum) (s : State) : Result := needCp0 s <| .next (s.writeCp0 rd (s.reg rt)).advance

/-- DMFC0 (rule R704): of a 32-bit register the result is undefined (item U17, log 32). -/
def execDmfc0 (rt : RegNum) (rd : RegNum) (s : State) : Result :=
  needCp0 s <| need64 s <|
    if isCp0Dword rd then .next (s.setReg rt (s.readCp0 rd)).advance
    else .next ((s.setReg rt (s.free 0)).drew 1).advance

/-- DMTC0 (rule R705): to a 32-bit register it is undefined (item U17, log 32). -/
def execDmtc0 (rt : RegNum) (rd : RegNum) (s : State) : Result :=
  needCp0 s <| need64 s <|
    if isCp0Dword rd || isReservedCp0 rd then .next (s.writeCp0 rd (s.reg rt)).advance
    else .refused .dmtc0To32Bit

/-- The register that `reg` selects, none for the values that are not valid (item U18). -/
def perfSelect (reg : BitVec 5) (r0 r1 : Word) : Option Word :=
  if reg = 0 then some r0 else if reg = 1 then some r1 else none

/-- The end of MFPC and MFPS: a value of `reg` that is not valid reads as a free value (item U18, log 33). -/
def readPerf (s : State) (rt : RegNum) : Option Word → Result
  | some w => .next (s.setReg rt (sext w)).advance
  | none => .next ((s.setReg rt (s.free 0)).drew 1).advance

/-- MFPC (rule R706). -/
def execMfpc (rt : RegNum) (reg : BitVec 5) (s : State) : Result :=
  needCp0 s <| readPerf s rt (perfSelect reg s.cp0.perfCounter0 s.cp0.perfCounter1)

/-- MTPC (rule R707); a value of `reg` that is not valid writes nothing (item U18, log 33). -/
def execMtpc (rt : RegNum) (reg : BitVec 5) (s : State) : Result :=
  needCp0 s <|
    if reg = 0 then .next (s.setCp0 { s.cp0 with perfCounter0 := low (s.reg rt) }).advance
    else if reg = 1 then .next (s.setCp0 { s.cp0 with perfCounter1 := low (s.reg rt) }).advance
    else .next s.advance

/-- MFPS (rule R708). -/
def execMfps (rt : RegNum) (reg : BitVec 5) (s : State) : Result :=
  needCp0 s <| readPerf s rt (perfSelect reg s.cp0.perfControl0.toWord s.cp0.perfControl1.toWord)

/-- MTPS (rule R709); a value of `reg` that is not valid writes nothing (item U18, log 33). -/
def execMtps (rt : RegNum) (reg : BitVec 5) (s : State) : Result :=
  needCp0 s <|
    if reg = 0 then .next (s.setCp0 { s.cp0 with perfControl0 := .ofWord (low (s.reg rt)) }).advance
    else if reg = 1 then .next (s.setCp0 { s.cp0 with perfControl1 := .ofWord (low (s.reg rt)) }).advance
    else .next s.advance

/-! ## TLB instructions (section 3) -/

/-- Write Index. -/
def State.setIndex (s : State) (p : Bool) (index : BitVec 6) : State :=
  s.setCp0 { s.cp0 with index := { p := p, index := index } }

/-- The end of TLBWI and TLBWR: a PageMask that names no page size makes the TLB "operate unexpectedly" (item U10,
log 28). -/
def writeEntry (s : State) (index : Nat) : Result :=
  if legalMask s.cp0.pageMask then .next (s.setTlb index s.cp0.makeEntry).advance else .refused .pageMaskIllegal

/-- TLBP (rule R715); after a miss the low bits of Index are undefined (item U28, log 39). -/
def execTlbp (s : State) : Result :=
  needCp0 s <|
    match s.tlbHits s.cp0.entryHi.r s.cp0.entryHi.vpn2 with
    | [] => .next ((s.setIndex true ((s.free 0).setWidth 6)).drew 1).advance
    | [hit] => .next (s.setIndex false (BitVec.ofNat 6 hit.2)).advance
    | _ => raise .tlbpMultiple s

/-- TLBR (rules R716, R719, item U14, log 29). -/
def execTlbr (s : State) : Result :=
  needCp0 s <|
    if h : s.cp0.index.index.toNat < 48 then
      .next (s.setCp0 (s.cp0.withEntry (s.tlb[s.cp0.index.index.toNat]'h))).advance
    else .refused .tlbIndexInvalid

/-- TLBWI (rules R717, R719, item U14, log 29). -/
def execTlbwi (s : State) : Result :=
  needCp0 s <|
    if s.cp0.index.index.toNat < 48 then writeEntry s s.cp0.index.index.toNat else .refused .tlbIndexInvalid

/-- TLBWR (rule R718). -/
def execTlbwr (s : State) : Result := needCp0 s <| writeEntry s.freshRandom s.freshRandom.cp0.random.toNat

/-! ## Return and standby (section 4) -/

/-- ERET (rules R730, R731). -/
def execEret (s : State) : Result := needCp0 s <| needNoSlot s <| .next (exceptionReturn s)

/-- WAIT (rule R735); undefined in a delay slot and with EXL or ERL set (item U16, log 31). -/
def execWait (_code : BitVec 19) (s : State) : Result :=
  needCp0 s <|
    if s.inDelay || s.status.exl || s.status.erl then .fault .waitUndefined
    else .next (s.advance.setRunState .standby)

/-! ## CACHE (section 5), under the flat memory of rule R742 (log 15) -/

/-- The operations that the table of rule R741 lists. -/
def isCacheOp (op : BitVec 5) : Bool :=
  op = 0x00 || op = 0x01 || op = 0x04 || op = 0x05 || op = 0x08 || op = 0x09 || op = 0x0D || op = 0x10 || op = 0x11
    || op = 0x14 || op = 0x15 || op = 0x19 || op = 0x1C || op = 0x1D

/-- The operations that may fill a line from memory: Fill and Fetch_and_Lock. -/
def isCacheFill (op : BitVec 5) : Bool := op = 0x14 || op = 0x1C || op = 0x1D

/-- Create_Dirty: the 32-byte block of the address becomes unspecified. -/
def State.blurBlock (s : State) (pa : PAddr) : State :=
  let block := pa.extractLsb' 5 31 ++ 0#5
  ((((s.memWrite block 8 (s.free 0)).memWrite (block + 8) 8 (s.free 1)).memWrite (block + 16) 8 (s.free 2)).memWrite
    (block + 24) 8 (s.free 3)).drew 4

/-- Index_Load_Tag: TagLo and the Parity Error register become unspecified. -/
def State.blurTag (s : State) : State :=
  (s.setCp0 { s.cp0 with tagLo := low (s.free 0), parityError := (s.free 1).setWidth 8 }).drew 2

/-- What a listed operation does under the flat memory of rule R742. -/
def State.cacheEffect (s : State) (op : BitVec 5) (pa : PAddr) : State :=
  if op = 0x04 || op = 0x05 then s.blurTag else if op = 0x0D then s.blurBlock pa else s

/-- CACHE (rules R740 to R742, item U15, log 30). A bus error on a line that the operation fills is DBE, code 7, of the
instruction cache too: the spec names no code for it (log 16). DESIGN CHOICE. -/
def execCache (base : RegNum) (op : BitVec 5) (offset : BitVec 16) (s : State) : Result :=
  needCp0 s <|
    match s.dataAddr (s.effAddr base offset) 1 false with
    | .error e => raise e s
    | .ok (pa, attr) =>
      if !isCacheOp op then .refused .cacheOpUndefined
      else if !isCacheable attr then .refused .cacheOnUncached
      else if s.inputs.busErrData && isCacheFill op then raise .busErrorData s
      else .next (s.cacheEffect op pa).advance

end Sys2Proof.Machine
end

