-- ==== Sys2Proof/Machine/Fp.lean ====
section
/-! DEFINITION. Floating-point numbers (47_fpu_arith.md rules R859 to R862): decoding, exact arithmetic on integers,
rounding. A finite number is a sign, a mantissa and an exponent of 2; an exact result may carry a sticky mark that
says it lies strictly above its mantissa and below the next. -/

namespace Sys2Proof.Machine

/-! ## Formats (rule R859) -/

/-- The formats S and D. -/
inductive FpFormat where
  | single
  | double
deriving DecidableEq, Repr

/-- Mantissa length p, with the hidden bit. -/
def FpFormat.precision : FpFormat → Nat
  | .single => 24
  | .double => 53
/-- Exponent length. -/
def FpFormat.expBits : FpFormat → Nat
  | .single => 8
  | .double => 11
/-- Emax, which is also the bias. -/
def FpFormat.emax : FpFormat → Int
  | .single => 127
  | .double => 1023
/-- Emin. -/
def FpFormat.emin (f : FpFormat) : Int := 1 - f.emax
/-- Fraction length. -/
def FpFormat.fracBits (f : FpFormat) : Nat := f.precision - 1
/-- The biased exponent of all ones. -/
def FpFormat.expOnes (f : FpFormat) : Nat := 2 ^ f.expBits - 1

/-- The default quiet NaN (rule R854). -/
def FpFormat.qnan : FpFormat → Dword
  | .single => Config.defaultQnanS.setWidth 64
  | .double => Config.defaultQnanD

/-- The bit pattern with these fields. -/
def FpFormat.pack (f : FpFormat) (neg : Bool) (e frac : Nat) : Dword :=
  BitVec.ofNat 64 (((if neg then 2 ^ f.expBits else 0) + e) * 2 ^ f.fracBits + frac)

/-- Infinity with a sign. -/
def FpFormat.infinity (f : FpFormat) (neg : Bool) : Dword := f.pack neg f.expOnes 0
/-- Zero with a sign. -/
def FpFormat.zero (f : FpFormat) (neg : Bool) : Dword := f.pack neg 0 0
/-- MaxNormal with a sign. -/
def FpFormat.maxNormal (f : FpFormat) (neg : Bool) : Dword := f.pack neg (f.expOnes - 1) (2 ^ f.fracBits - 1)
/-- MinNormal, 2^Emin, with a sign. -/
def FpFormat.minNormal (f : FpFormat) (neg : Bool) : Dword := f.pack neg 1 0

/-- A decoded operand (Classify of rule R859). `finite` is a zero or a normalized number, of value
`(-1)^neg * m * 2^e`. -/
inductive Fp where
  | finite (neg : Bool) (m : Nat) (e : Int)
  | denormal (neg : Bool) (m : Nat) (e : Int)
  | inf (neg : Bool)
  | qnan
  | snan
deriving DecidableEq, Repr

/-- Decode a bit pattern; a NaN is signaling when the most significant bit of its fraction is set (rule R859). -/
def FpFormat.decode (f : FpFormat) (v : Dword) : Fp :=
  let frac := v.toNat % 2 ^ f.fracBits
  let e := v.toNat / 2 ^ f.fracBits % 2 ^ f.expBits
  let neg := v.toNat / 2 ^ (f.fracBits + f.expBits) % 2 = 1
  if e = f.expOnes then
    if frac = 0 then .inf neg else if 2 ^ (f.fracBits - 1) ≤ frac then .snan else .qnan
  else if e = 0 then
    if frac = 0 then .finite neg 0 0 else .denormal neg frac (f.emin - f.fracBits)
  else .finite neg (2 ^ f.fracBits + frac) (e - f.emax - f.fracBits)

/-! ## Rounding (rule R857) -/

/-- The four rounding modes. -/
inductive Rounding where
  | nearest
  | toZero
  | up
  | down
deriving DecidableEq, Repr

/-- The mode that RM selects. -/
def Fcr31.rounding (f : Fcr31) : Rounding :=
  if f.rm = 0b00#2 then .nearest else if f.rm = 0b01#2 then .toZero else if f.rm = 0b10#2 then .up else .down

/-- A mantissa after its low `d` bits are rounded away, and whether that changed the value. -/
structure Rounded where
  q : Nat
  inexact : Bool
deriving DecidableEq, Repr

/-- Round away the low `d` bits of `m` (rule R857). -/
def Rounding.drop (mode : Rounding) (neg : Bool) (m d : Nat) (sticky : Bool) : Rounded :=
  let q := m / 2 ^ d
  let rest := m % 2 ^ d
  let inexact := rest != 0 || sticky
  let above := 2 ^ d < 2 * rest || (2 ^ d == 2 * rest && sticky && 0 < d)
  let tie := 2 ^ d == 2 * rest && !sticky && 0 < d
  let up := match mode with
    | .nearest => above || (tie && q % 2 == 1)
    | .toZero => false
    | .up => inexact && !neg
    | .down => inexact && neg
  { q := if up then q + 1 else q, inexact := inexact }

/-- A number of exactly p bits: mantissa, exponent of its last bit, and whether rounding changed the value. -/
structure Normalized where
  q : Nat
  e : Int
  inexact : Bool
deriving DecidableEq, Repr

/-- Round `m * 2^e`, `m` not 0, to p significant bits with the exponent range unbounded (rule R855). -/
def FpFormat.normalize (f : FpFormat) (mode : Rounding) (neg : Bool) (m : Nat) (e : Int) (sticky : Bool) :
    Normalized :=
  let n := m.log2 + 1
  let r := mode.drop neg m (n - f.precision) sticky
  let r' := { r with q := r.q * 2 ^ (f.precision - n) }
  let e' := e + (n - f.precision : Nat) - (f.precision - n : Nat)
  if r'.q = 2 ^ f.precision then { q := 2 ^ (f.precision - 1), e := e' + 1, inexact := r'.inexact }
  else { q := r'.q, e := e', inexact := r'.inexact }

/-- The exponent E of a normalized number. -/
def FpFormat.exponent (f : FpFormat) (x : Normalized) : Int := x.e + f.fracBits

/-- The pattern of a normalized number whose exponent is in range. -/
def FpFormat.packNormal (f : FpFormat) (neg : Bool) (x : Normalized) : Dword :=
  f.pack neg (f.exponent x + f.emax).toNat (x.q - 2 ^ f.fracBits)

/-! ## The result of an operation (rules R854, R855) -/

/-- What an operation on operands that passed the screen gives before rounding. -/
inductive FpExact where
  /-- Invalid operation (V). -/
  | invalid
  /-- Division by zero (Z), with the sign of its infinity. -/
  | divideByZero (neg : Bool)
  | inf (neg : Bool)
  /-- `(-1)^neg * m * 2^e`, or strictly between that and the next mantissa when `sticky`; zero when `m = 0`. -/
  | value (neg : Bool) (m : Nat) (e : Int) (sticky : Bool)
deriving DecidableEq, Repr

/-- Cause bits and the value to store. -/
structure FpResult where
  cause : BitVec 6
  value : Dword
deriving DecidableEq, Repr

/-- OverflowDefault of rule R854. -/
def FpFormat.overflowValue (f : FpFormat) (mode : Rounding) (neg : Bool) : Dword :=
  match mode with
  | .nearest => f.infinity neg
  | .toZero => f.maxNormal neg
  | .up => if neg then f.maxNormal true else f.infinity false
  | .down => if neg then f.infinity true else f.maxNormal false

/-- FlushValue of rule R855. -/
def FpFormat.flushValue (f : FpFormat) (mode : Rounding) (neg : Bool) : Dword :=
  match mode with
  | .up => if neg then f.zero true else f.minNormal false
  | .down => if neg then f.minNormal true else f.zero false
  | _ => f.zero neg

/-- Whether a tiny result is handed to software: always in the multiply-add family, else unless FS is set and neither
underflow nor inexact is enabled (rule R855). -/
def Fcr31.tinyUnimplemented (c : Fcr31) (maddFamily : Bool) : Bool :=
  maddFamily || c.enables.getLsbD 1 || c.enables.getLsbD 0 || !c.fs

/-- FPRound of rule R855, for an exact value; an exact zero keeps its sign. -/
def fpRound (f : FpFormat) (c : Fcr31) (maddFamily neg : Bool) (m : Nat) (e : Int) (sticky : Bool) : FpResult :=
  if m = 0 then { cause := causeNone, value := f.zero neg }
  else
    let x := f.normalize c.rounding neg m e sticky
    if f.emax < f.exponent x then { cause := causeOI, value := f.overflowValue c.rounding neg }
    else if f.exponent x < f.emin then
      if c.tinyUnimplemented maddFamily then { cause := causeE, value := 0 }
      else { cause := causeUI, value := f.flushValue c.rounding neg }
    else { cause := if x.inexact then causeI else causeNone, value := f.packNormal neg x }

/-- The result of an operation: the default values of rule R854, or `fpRound`. -/
def FpExact.result (x : FpExact) (f : FpFormat) (c : Fcr31) (maddFamily : Bool) : FpResult :=
  match x with
  | .invalid => { cause := causeV, value := f.qnan }
  | .divideByZero neg => { cause := causeZ, value := f.infinity neg }
  | .inf neg => { cause := causeNone, value := f.infinity neg }
  | .value neg m e sticky => fpRound f c maddFamily neg m e sticky

/-- FPScreen of rule R862: a denormalized operand or a quiet NaN is unimplemented, then a signaling NaN is invalid. -/
def fpScreen (f : FpFormat) (operands : List Fp) : Option FpResult :=
  if operands.any fun | .denormal _ _ _ => true | .qnan => true | _ => false then
    some { cause := causeE, value := 0 }
  else if operands.any fun | .snan => true | _ => false then some { cause := causeV, value := f.qnan }
  else none

/-! ## Exact operations (rules R865 to R873); their operands have passed the screen -/

/-- A signed integer scaled down to a common exponent. -/
def scaled (neg : Bool) (m : Nat) (e e0 : Int) : Int :=
  (if neg then -1 else 1) * ((m * 2 ^ (e - e0).toNat : Nat) : Int)

/-- The sum (rules R865, R857). -/
def Fp.add (mode : Rounding) : Fp → Fp → FpExact
  | .inf a, .inf b => if a = b then .inf a else .invalid
  | .inf a, .finite _ _ _ => .inf a
  | .finite _ _ _, .inf b => .inf b
  | .finite a m e, .finite b n g =>
    let e0 := min e g
    let sum := scaled a m e e0 + scaled b n g e0
    if sum = 0 then .value (if a = b then a else mode = .down) 0 0 false
    else .value (sum < 0) sum.natAbs e0 false
  | _, _ => .invalid

/-- The operand with its sign inverted. -/
def Fp.negate : Fp → Fp
  | .finite a m e => .finite (!a) m e
  | .denormal a m e => .denormal (!a) m e
  | .inf a => .inf (!a)
  | x => x

/-- The difference (rule R866). -/
def Fp.sub (mode : Rounding) (a b : Fp) : FpExact := Fp.add mode a b.negate

/-- The exact product, none where it is invalid (rule R867). -/
def Fp.product : Fp → Fp → Option Fp
  | .inf a, .inf b => some (.inf (a != b))
  | .inf a, .finite b n _ => if n = 0 then none else some (.inf (a != b))
  | .finite a m _, .inf b => if m = 0 then none else some (.inf (a != b))
  | .finite a m e, .finite b n g => some (.finite (a != b) (m * n) (e + g))
  | _, _ => none

/-- An operand as an exact result. -/
def Fp.exact : Fp → FpExact
  | .finite a m e => .value a m e false
  | .inf a => .inf a
  | _ => .invalid

/-- The product (rule R867). -/
def Fp.mul (a b : Fp) : FpExact :=
  match Fp.product a b with
  | some p => p.exact
  | none => .invalid

/-- The quotient (rule R868); a dividend of at least 24 or 53 bits leaves, with 60 more, enough to round from. -/
def Fp.div : Fp → Fp → FpExact
  | .inf _, .inf _ => .invalid
  | .inf a, .finite b _ _ => .inf (a != b)
  | .finite a _ _, .inf b => .value (a != b) 0 0 false
  | .finite a m e, .finite b n g =>
    if n = 0 then (if m = 0 then .invalid else .divideByZero (a != b))
    else if m = 0 then .value (a != b) 0 0 false
    else .value (a != b) (m * 2 ^ 60 / n) (e - g - 60) (m * 2 ^ 60 % n != 0)
  | _, _ => .invalid

/-- The number 1, with as many bits as `Fp.div` needs of a dividend. -/
def Fp.one : Fp := .finite false (2 ^ 52) (-52)

/-- The integer square root, bit by bit: `acc` has the bits above `k`. -/
def isqrtFrom (n : Nat) : Nat → Nat → Nat
  | 0, acc => acc
  | k + 1, acc => isqrtFrom n k (if (acc + 2 ^ k) * (acc + 2 ^ k) ≤ n then acc + 2 ^ k else acc)

/-- The integer square root. -/
def isqrt (n : Nat) : Nat := isqrtFrom n (n.log2 / 2 + 1) 0

/-- A mantissa whose exponent is even. -/
def evenMantissa (m : Nat) (e : Int) : Nat := if e % 2 = 0 then m else 2 * m
/-- Half the even exponent. -/
def halfExponent (e : Int) : Int := (if e % 2 = 0 then e else e - 1) / 2

/-- The square root (rule R869). -/
def Fp.sqrt : Fp → FpExact
  | .finite a m e =>
    if m = 0 then .value a 0 0 false
    else if a then .invalid
    else
      let n := evenMantissa m e * 2 ^ 120
      .value false (isqrt n) (halfExponent e - 60) (isqrt n * isqrt n != n)
  | .inf a => if a then .invalid else .inf false
  | _ => .invalid

/-- The reciprocal of the square root (rule R873). -/
def Fp.rsqrt : Fp → FpExact
  | .finite a m e =>
    if m = 0 then .divideByZero a
    else if a then .invalid
    else
      let n := evenMantissa m e
      let q := isqrt (2 ^ 240 / n)
      .value false q (-120 - halfExponent e) (q * q * n != 2 ^ 240)
  | .inf a => if a then .invalid else .value false 0 0 false
  | _ => .invalid

/-! ## Multiply and add (rule R874) -/

/-- A finite product rounded to the format, exponent unbounded. -/
def FpFormat.roundProduct (f : FpFormat) (mode : Rounding) (neg : Bool) (m : Nat) (e : Int) : Normalized :=
  f.normalize mode neg m e false

/-- Whether a product must be handed to software: it overflows or is tiny after rounding. -/
def FpFormat.productUnimplemented (f : FpFormat) (mode : Rounding) : Fp → Bool
  | .finite neg m e =>
    if m = 0 then false
    else
      let x := f.roundProduct mode neg m e
      f.emax < f.exponent x || f.exponent x < f.emin
  | _ => false

/-- The product that is added, and the cause of its own rounding: exact when FP_MADD_FUSED (92_eei_decisions.md D50). -/
def FpFormat.addend (f : FpFormat) (mode : Rounding) (p : Fp) : Fp × BitVec 6 :=
  if Config.fpMaddFused then (p, causeNone)
  else match p with
    | .finite neg m e =>
      if m = 0 then (p, causeNone)
      else
        let x := f.roundProduct mode neg m e
        (.finite neg x.q x.e, if x.inexact then causeI else causeNone)
    | _ => (p, causeNone)

/-- A pattern with its sign bit inverted. -/
def FpFormat.flipSign (f : FpFormat) (v : Dword) : Dword := v ^^^ f.zero true
/-- A pattern with its sign bit cleared. -/
def FpFormat.clearSign (f : FpFormat) (v : Dword) : Dword := v &&& ~~~f.zero true

/-- FPMadd of rule R874 after its gate: `b * d` plus or minus `a`, the result negated when `neg`; a default NaN keeps
its sign. -/
def fpMadd (f : FpFormat) (c : Fcr31) (sub neg : Bool) (a b d : Fp) : FpResult :=
  match fpScreen f [a, b, d] with
  | some r => r
  | none =>
    match Fp.product b d with
    | none => { cause := causeV, value := f.qnan }
    | some p =>
      if f.productUnimplemented c.rounding p then { cause := causeE, value := 0 }
      else
        let t := Fp.add c.rounding (f.addend c.rounding p).1 (if sub then a.negate else a)
        let r := t.result f c true
        if t = .invalid || r.cause = causeE then r
        else
          { cause := r.cause ||| (f.addend c.rounding p).2, value := if neg then f.flipSign r.value else r.value }

/-! ## Conversion to fixed point (rule R880) -/

/-- A number rounded to an integer, and whether that changed its value. -/
def roundToInt (mode : Rounding) (neg : Bool) (m : Nat) (e : Int) : Int × Bool :=
  let r := mode.drop neg (m * 2 ^ e.toNat) (-e).toNat false
  ((if neg then -1 else 1) * (r.q : Int), r.inexact)

/-- FPToFixed of rule R880 after its gates, for results from `lo` to `hi`. -/
def fpToFixed (mode : Rounding) (lo hi : Int) : Fp → FpResult
  | .finite neg m e =>
    let r := roundToInt mode neg m e
    if hi < r.1 || r.1 < lo then { cause := causeE, value := 0 }
    else { cause := if r.2 then causeI else causeNone, value := BitVec.ofInt 64 r.1 }
  | _ => { cause := causeE, value := 0 }

/-- The range of W results. -/
def wordLow : Int := -2 ^ 31
/-- The range of W results. -/
def wordHigh : Int := 2 ^ 31 - 1
/-- The range of L results (rule R880). -/
def longLow : Int := -2 ^ 53
/-- The range of L results (rule R880). -/
def longHigh : Int := 2 ^ 53 - 1

/-! ## Conversion to floating point (rules R889, R890) -/

/-- An integer in a floating-point format; zero is +0. -/
def fpFromInt (f : FpFormat) (c : Fcr31) (i : Int) : FpResult := fpRound f c false (i < 0) i.natAbs 0 false

/-- A 64-bit integer: outside -2^55 .. 2^55 - 1 it is unimplemented. -/
def fpFromLong (f : FpFormat) (c : Fcr31) (i : Int) : FpResult :=
  if 2 ^ 55 - 1 < i || i < -2 ^ 55 then { cause := causeE, value := 0 } else fpFromInt f c i

/-- One floating-point format from the other; an infinity is unimplemented when FP_CVT_FLOAT_INF_UNIMPL. -/
def fpFromFp (f : FpFormat) (c : Fcr31) (x : Fp) : FpResult :=
  match fpScreen f [x] with
  | some r => r
  | none =>
    match x with
    | .inf _ => if Config.fpCvtFloatInfUnimpl then { cause := causeE, value := 0 } else x.exact.result f c false
    | _ => x.exact.result f c false

/-! ## Comparison (rule R895) -/

/-- Less, equal and unordered; a denormalized operand is compared by its value. -/
structure Relation where
  less : Bool
  equal : Bool
  unordered : Bool
deriving DecidableEq, Repr

/-- Sign, mantissa and exponent of a number that is no infinity and no NaN. -/
def Fp.parts : Fp → Option (Bool × Nat × Int)
  | .finite a m e => some (a, m, e)
  | .denormal a m e => some (a, m, e)
  | _ => none

/-- The relation of two operands. -/
def Fp.relate : Fp → Fp → Relation
  | .qnan, _ => { less := false, equal := false, unordered := true }
  | .snan, _ => { less := false, equal := false, unordered := true }
  | _, .qnan => { less := false, equal := false, unordered := true }
  | _, .snan => { less := false, equal := false, unordered := true }
  | .inf a, .inf b => { less := a && !b, equal := a = b, unordered := false }
  | .inf a, _ => { less := a, equal := false, unordered := false }
  | _, .inf b => { less := !b, equal := false, unordered := false }
  | x, y =>
    match x.parts, y.parts with
    | some (a, m, e), some (b, n, g) =>
      let e0 := min e g
      { less := scaled a m e e0 < scaled b n g e0, equal := scaled a m e e0 = scaled b n g e0, unordered := false }
    | _, _ => { less := false, equal := false, unordered := true }

/-- Whether a comparison signals invalid: an SNaN, or an unordered one with the top bit of its condition set. -/
def compareInvalid (cond : BitVec 4) (a b : Fp) : Bool :=
  a = .snan || b = .snan || (cond.getLsbD 3 && (Fp.relate a b).unordered)

/-- The truth of a condition (rule R895). -/
def compareTrue (cond : BitVec 4) (a b : Fp) : Bool :=
  let r := Fp.relate a b
  (cond.getLsbD 2 && r.less) || (cond.getLsbD 1 && r.equal) || (cond.getLsbD 0 && r.unordered)

end Sys2Proof.Machine
end

