-- ==== Sys2Proof/Machine/FpuMove.lean ====
section
/-! DEFINITION. Loads, stores, moves, conditional moves and branches of the FPU (46_fpu_move_ls.md). -/

namespace Sys2Proof.Machine

/-! ## Formats in registers (10_state.md rule R52) -/

/-- ValueFPR for S and D. -/
def FpFormat.read (f : FpFormat) (s : State) (i : FprNum) : Dword :=
  match f with
  | .single => (s.fp i).lo.setWidth 64
  | .double => (s.fp i).toDword

/-- StoreFPR for S and D. -/
def FpFormat.store (f : FpFormat) (i : FprNum) (v : Dword) (s : State) : State :=
  match f with
  | .single => s.storeFprWord i (low v)
  | .double => s.writeFgrDouble i v

/-! ## Loads and stores (sections 2 and 3) -/

/-- LWC1 (rule R800). -/
def execLwc1 (base : RegNum) (ft : FprNum) (offset : BitVec 16) (s : State) : Result :=
  needFpu s <| loadFgrWord s (s.effAddr base offset) ft

/-- LDC1 (rule R801). -/
def execLdc1 (base : RegNum) (ft : FprNum) (offset : BitVec 16) (s : State) : Result :=
  needFpu s <| loadFgrDouble s (s.effAddr base offset) ft

/-- SWC1 (rule R802). -/
def execSwc1 (base : RegNum) (ft : FprNum) (offset : BitVec 16) (s : State) : Result :=
  needFpu s <| storeFgrWord s (s.effAddr base offset) ft

/-- SDC1 (rule R803). -/
def execSdc1 (base : RegNum) (ft : FprNum) (offset : BitVec 16) (s : State) : Result :=
  needFpu s <| storeFgrDouble s (s.effAddr base offset) ft

/-- The gates of an indexed access (rules R830, R833, R834), then `k` with its address. -/
def indexedGate (s : State) (base index : RegNum) (k : Dword → Result) : Result :=
  needFpu s <| needMips4 s <| needSameRegion s base (s.indexedAddr base index) <| k (s.indexedAddr base index)

/-- An address with its low three bits masked by 0 (rules R807, R810). -/
def maskLow3 (va : Dword) : Dword := va.extractLsb' 3 61 ++ 0#3

/-- LWXC1 (rule R805). -/
def execLwxc1 (base : RegNum) (index : RegNum) (fd : FprNum) (s : State) : Result :=
  indexedGate s base index fun va => loadFgrWord s va fd

/-- LDXC1 (rule R806). -/
def execLdxc1 (base : RegNum) (index : RegNum) (fd : FprNum) (s : State) : Result :=
  indexedGate s base index fun va => loadFgrDouble s va fd

/-- LUXC1 (rule R807). -/
def execLuxc1 (base : RegNum) (index : RegNum) (fd : FprNum) (s : State) : Result :=
  indexedGate s base index fun va => loadFgrDouble s (maskLow3 va) fd

/-- SWXC1 (rule R808). -/
def execSwxc1 (base : RegNum) (index : RegNum) (fs : FprNum) (s : State) : Result :=
  indexedGate s base index fun va => storeFgrWord s va fs

/-- SDXC1 (rule R809). -/
def execSdxc1 (base : RegNum) (index : RegNum) (fs : FprNum) (s : State) : Result :=
  indexedGate s base index fun va => storeFgrDouble s va fs

/-- SUXC1 (rule R810). -/
def execSuxc1 (base : RegNum) (index : RegNum) (fs : FprNum) (s : State) : Result :=
  indexedGate s base index fun va => storeFgrDouble s (maskLow3 va) fs

/-- PREFX: a no-operation after its gates (rule R811, log 36). -/
def execPrefx (_base : RegNum) (_index : RegNum) (_hint : BitVec 5) (s : State) : Result :=
  needFpu s <| needMips4 s <| .next s.advance

/-! ## Moves (section 4) -/

/-- MFC1 (rule R812). -/
def execMfc1 (rt : RegNum) (fs : FprNum) (s : State) : Result :=
  needFpu s <| .next (s.setReg rt (sext (s.readFgrWord fs))).advance

/-- MTC1 (rule R813). -/
def execMtc1 (rt : RegNum) (fs : FprNum) (s : State) : Result :=
  needFpu s <| .next (s.writeFgrWord fs (low (s.reg rt))).advance

/-- DMFC1 (rule R814); of an odd register with FR = 0 the data are undefined (item U20, log 34). -/
def execDmfc1 (rt : RegNum) (fs : FprNum) (s : State) : Result :=
  needFpu s <| need64 s <|
    if s.oddFp fs then .next ((s.setReg rt (s.free 0)).drew 1).advance
    else .next (s.setReg rt (s.readFgrDouble fs)).advance

/-- DMTC1 (rule R815). -/
def execDmtc1 (rt : RegNum) (fs : FprNum) (s : State) : Result :=
  needFpu s <| need64 s <|
    if s.oddFp fs then .refused .oddFpRegister else .next (s.writeFgrDouble fs (s.reg rt)).advance

/-- The control register that CFC1 reads, none for the reserved ones (10_state.md rules R53 to R58). -/
def State.fcr (s : State) (fs : FprNum) : Option Word :=
  if fs = 0 then some Config.fcr0Value
  else if fs = 25 then some s.fcr31.conditionWord
  else if fs = 26 then some s.fcr31.causeFlagWord
  else if fs = 28 then some s.fcr31.enableModeWord
  else if fs = 31 then some s.fcr31.toWord
  else none

/-- FCR31 after CTC1 writes one of its views, none for the other control registers. -/
def Fcr31.writeView (f : Fcr31) (fs : FprNum) (w : Word) : Option Fcr31 :=
  if fs = 25 then some (f.withCondition w)
  else if fs = 26 then some (f.withCauseFlag w)
  else if fs = 28 then some (f.withEnableMode w)
  else if fs = 31 then some (.ofWord w)
  else none

/-- CFC1 (rule R816); a reserved control register reads as a free value (item U21, log 35). -/
def execCfc1 (rt : RegNum) (fs : FprNum) (s : State) : Result :=
  needFpu s <|
    match s.fcr fs with
    | some w => .next (s.setReg rt (sext w)).advance
    | none => .next ((s.setReg rt (s.free 0)).drew 1).advance

/-- CTC1 (rule R817): the write precedes the exception; FCR0 is read only; the reserved control registers are
undefined (item U21, log 35). -/
def execCtc1 (rt : RegNum) (fs : FprNum) (s : State) : Result :=
  needFpu s <|
    match s.fcr31.writeView fs (low (s.reg rt)) with
    | some f => if f.traps then raise .floatingPoint (s.setFcr31 f) else .next (s.setFcr31 f).advance
    | none => if fs = 0 then .next s.advance else .refused .ctc1Reserved

/-! ## Branches (section 5) -/

/-- BC1F (rules R818, R819). -/
def execBc1f (cc : BitVec 3) (offset : BitVec 16) (s : State) : Result :=
  needFpu s <| needCc s cc <| branchOn s offset (!s.fpCondition cc) false

/-- BC1T (rules R818, R820). -/
def execBc1t (cc : BitVec 3) (offset : BitVec 16) (s : State) : Result :=
  needFpu s <| needCc s cc <| branchOn s offset (s.fpCondition cc) false

/-- BC1FL (rules R818, R821). -/
def execBc1fl (cc : BitVec 3) (offset : BitVec 16) (s : State) : Result :=
  needFpu s <| needCc s cc <| branchOn s offset (!s.fpCondition cc) true

/-- BC1TL (rules R818, R822). -/
def execBc1tl (cc : BitVec 3) (offset : BitVec 16) (s : State) : Result :=
  needFpu s <| needCc s cc <| branchOn s offset (s.fpCondition cc) true

/-! ## Conditional moves (section 6) -/

/-- MOVF (rule R823). -/
def execMovf (rs : RegNum) (cc : BitVec 3) (rd : RegNum) (s : State) : Result :=
  needFpu s <| needMips4 s <| if s.fpCondition cc then .next s.advance else writeReg s rd (s.reg rs)

/-- MOVT (rule R824). -/
def execMovt (rs : RegNum) (cc : BitVec 3) (rd : RegNum) (s : State) : Result :=
  needFpu s <| needMips4 s <| if s.fpCondition cc then writeReg s rd (s.reg rs) else .next s.advance

/-- A move of a floating-point register, or of `fd` to itself when the condition fails (rules R825, R826). -/
def fpMoveIf (f : FpFormat) (condition : Bool) (s : State) (fs fd : FprNum) : Result :=
  needEvenFp s [fs, fd] <| .next (f.store fd (f.read s (if condition then fs else fd)) s).advance

/-- MOV.S (rule R825). -/
def execFpMovS (fs : FprNum) (fd : FprNum) (s : State) : Result := needFpu s <| fpMoveIf .single true s fs fd

/-- MOV.D (rule R825). -/
def execFpMovD (fs : FprNum) (fd : FprNum) (s : State) : Result := needFpu s <| fpMoveIf .double true s fs fd

/-- MOVF.S (rule R826). -/
def execFpMovfS (cc : BitVec 3) (fs : FprNum) (fd : FprNum) (s : State) : Result :=
  needFpu s <| needMips4Fp s <| fpMoveIf .single (!s.fpCondition cc) s fs fd

/-- MOVF.D (rule R826). -/
def execFpMovfD (cc : BitVec 3) (fs : FprNum) (fd : FprNum) (s : State) : Result :=
  needFpu s <| needMips4Fp s <| fpMoveIf .double (!s.fpCondition cc) s fs fd

/-- MOVT.S (rule R827). -/
def execFpMovtS (cc : BitVec 3) (fs : FprNum) (fd : FprNum) (s : State) : Result :=
  needFpu s <| needMips4Fp s <| fpMoveIf .single (s.fpCondition cc) s fs fd

/-- MOVT.D (rule R827). -/
def execFpMovtD (cc : BitVec 3) (fs : FprNum) (fd : FprNum) (s : State) : Result :=
  needFpu s <| needMips4Fp s <| fpMoveIf .double (s.fpCondition cc) s fs fd

/-- MOVN.S (rule R828). -/
def execFpMovnS (rt : RegNum) (fs : FprNum) (fd : FprNum) (s : State) : Result :=
  needFpu s <| needMips4Fp s <| fpMoveIf .single (s.reg rt != 0) s fs fd

/-- MOVN.D (rule R828). -/
def execFpMovnD (rt : RegNum) (fs : FprNum) (fd : FprNum) (s : State) : Result :=
  needFpu s <| needMips4Fp s <| fpMoveIf .double (s.reg rt != 0) s fs fd

/-- MOVZ.S (rule R829). -/
def execFpMovzS (rt : RegNum) (fs : FprNum) (fd : FprNum) (s : State) : Result :=
  needFpu s <| needMips4Fp s <| fpMoveIf .single (s.reg rt == 0) s fs fd

/-- MOVZ.D (rule R829). -/
def execFpMovzD (rt : RegNum) (fs : FprNum) (fd : FprNum) (s : State) : Result :=
  needFpu s <| needMips4Fp s <| fpMoveIf .double (s.reg rt == 0) s fs fd

end Sys2Proof.Machine
end

