-- ==== Sys2Proof/Machine/FpuArith.lean ====
section
/-! DEFINITION. Arithmetic, conversion and comparison of the FPU (47_fpu_arith.md). -/

namespace Sys2Proof.Machine

/-! ## Common procedures -/

/-- An operand in a floating-point format. -/
def FpFormat.operand (f : FpFormat) (s : State) (i : FprNum) : Fp := f.decode (f.read s i)

/-- The common end: FPFinish (rule R850) of a result in format `f`. -/
def FpFormat.finish (f : FpFormat) (s : State) (fd : FprNum) (r : FpResult) : Result :=
  fpFinish s r.cause (f.store fd r.value)

/-- Cause and value of a two-operand computation: FPArith2 of section 3. -/
def fpResult2 (f : FpFormat) (op : Rounding → Fp → Fp → FpExact) (s : State) (ft fs : FprNum) : FpResult :=
  match fpScreen f [f.operand s fs, f.operand s ft] with
  | some r => r
  | none => (op s.fcr31.rounding (f.operand s fs) (f.operand s ft)).result f s.fcr31 false

/-- Cause and value of a one-operand computation. -/
def fpResult1 (f : FpFormat) (op : Fp → FpExact) (s : State) (fs : FprNum) : FpResult :=
  match fpScreen f [f.operand s fs] with
  | some r => r
  | none => (op (f.operand s fs)).result f s.fcr31 false

/-- Cause and value of ABS and NEG: exact on the bit pattern (rules R870, R871). -/
def fpSignResult (f : FpFormat) (op : Dword → Dword) (s : State) (fs : FprNum) : FpResult :=
  match fpScreen f [f.operand s fs] with
  | some r => r
  | none => { cause := causeNone, value := op (f.read s fs) }

/-- A two-operand computation. -/
def fpArith2 (f : FpFormat) (op : Rounding → Fp → Fp → FpExact) (s : State) (ft fs fd : FprNum) : Result :=
  needEvenFp s [ft, fs, fd] <| f.finish s fd (fpResult2 f op s ft fs)

/-- A one-operand computation. -/
def fpArith1 (f : FpFormat) (op : Fp → FpExact) (s : State) (fs fd : FprNum) : Result :=
  needEvenFp s [fs, fd] <| f.finish s fd (fpResult1 f op s fs)

/-- ABS and NEG. -/
def fpSign (f : FpFormat) (op : Dword → Dword) (s : State) (fs fd : FprNum) : Result :=
  needEvenFp s [fs, fd] <| f.finish s fd (fpSignResult f op s fs)

/-- FPMadd of rule R874. -/
def fpMulAdd (f : FpFormat) (sub neg : Bool) (s : State) (fr ft fs fd : FprNum) : Result :=
  needMips4Fp s <| needEvenFp s [fr, ft, fs, fd] <|
    f.finish s fd (fpMadd f s.fcr31 sub neg (f.operand s fr) (f.operand s fs) (f.operand s ft))

/-- FPToFixed of rule R880 to W. -/
def fpToWord (f : FpFormat) (mode : Rounding) (s : State) (fs fd : FprNum) : Result :=
  needEvenFp s [fs, fd] <|
    let r := fpToFixed mode wordLow wordHigh (f.operand s fs)
    fpFinish s r.cause fun t => t.storeFprWord fd (low r.value)

/-- FPToFixed of rule R880 to L. -/
def fpToLong (f : FpFormat) (mode : Rounding) (s : State) (fs fd : FprNum) : Result :=
  need64 s <| needEvenFp s [fs, fd] <|
    let r := fpToFixed mode longLow longHigh (f.operand s fs)
    fpFinish s r.cause fun t => t.writeFgrDouble fd r.value

/-- A conversion from `src` to `dst` (rules R889, R890). -/
def fpConvert (dst src : FpFormat) (s : State) (fs fd : FprNum) : Result :=
  needEvenFp s [fs, fd] <| dst.finish s fd (fpFromFp dst s.fcr31 (src.operand s fs))

/-- A conversion from W (rules R889, R890). -/
def fpFromWord (dst : FpFormat) (s : State) (fs fd : FprNum) : Result :=
  needEvenFp s [fs, fd] <| dst.finish s fd (fpFromInt dst s.fcr31 (s.fp fs).lo.toInt)

/-- A conversion from L (rules R889, R890): in 32-bit user or supervisor mode unimplemented. -/
def fpFromDword (dst : FpFormat) (s : State) (fs fd : FprNum) : Result :=
  if s.status.ops64 then
    needEvenFp s [fs, fd] <| dst.finish s fd (fpFromLong dst s.fcr31 (s.fp fs).toDword.toInt)
  else raiseUnimplemented s

/-- C.cond.fmt (rule R895). -/
def fpCompare (f : FpFormat) (cond : BitVec 4) (s : State) (ft fs : FprNum) (cc : BitVec 3) : Result :=
  needCc s cc <| needEvenFp s [ft, fs] <|
    let a := f.operand s fs
    let b := f.operand s ft
    fpFinish s (if compareInvalid cond a b then causeV else causeNone)
      fun t => t.setFcr31 (t.fcr31.setCondition cc (compareTrue cond a b))

/-! ## Arithmetic (section 3) -/

/-- ADD.S (rule R865). -/
def execFpAddS (ft : FprNum) (fs : FprNum) (fd : FprNum) (s : State) : Result :=
  needFpu s <| fpArith2 .single Fp.add s ft fs fd

/-- ADD.D (rule R865). -/
def execFpAddD (ft : FprNum) (fs : FprNum) (fd : FprNum) (s : State) : Result :=
  needFpu s <| fpArith2 .double Fp.add s ft fs fd

/-- SUB.S (rule R866). -/
def execFpSubS (ft : FprNum) (fs : FprNum) (fd : FprNum) (s : State) : Result :=
  needFpu s <| fpArith2 .single Fp.sub s ft fs fd

/-- SUB.D (rule R866). -/
def execFpSubD (ft : FprNum) (fs : FprNum) (fd : FprNum) (s : State) : Result :=
  needFpu s <| fpArith2 .double Fp.sub s ft fs fd

/-- MUL.S (rule R867). -/
def execFpMulS (ft : FprNum) (fs : FprNum) (fd : FprNum) (s : State) : Result :=
  needFpu s <| fpArith2 .single (fun _ => Fp.mul) s ft fs fd

/-- MUL.D (rule R867). -/
def execFpMulD (ft : FprNum) (fs : FprNum) (fd : FprNum) (s : State) : Result :=
  needFpu s <| fpArith2 .double (fun _ => Fp.mul) s ft fs fd

/-- DIV.S (rule R868). -/
def execFpDivS (ft : FprNum) (fs : FprNum) (fd : FprNum) (s : State) : Result :=
  needFpu s <| fpArith2 .single (fun _ => Fp.div) s ft fs fd

/-- DIV.D (rule R868). -/
def execFpDivD (ft : FprNum) (fs : FprNum) (fd : FprNum) (s : State) : Result :=
  needFpu s <| fpArith2 .double (fun _ => Fp.div) s ft fs fd

/-- SQRT.S (rule R869). -/
def execFpSqrtS (fs : FprNum) (fd : FprNum) (s : State) : Result := needFpu s <| fpArith1 .single Fp.sqrt s fs fd

/-- SQRT.D (rule R869). -/
def execFpSqrtD (fs : FprNum) (fd : FprNum) (s : State) : Result := needFpu s <| fpArith1 .double Fp.sqrt s fs fd

/-- ABS.S (rule R870). -/
def execFpAbsS (fs : FprNum) (fd : FprNum) (s : State) : Result :=
  needFpu s <| fpSign .single (FpFormat.clearSign .single) s fs fd

/-- ABS.D (rule R870). -/
def execFpAbsD (fs : FprNum) (fd : FprNum) (s : State) : Result :=
  needFpu s <| fpSign .double (FpFormat.clearSign .double) s fs fd

/-- NEG.S (rule R871). -/
def execFpNegS (fs : FprNum) (fd : FprNum) (s : State) : Result :=
  needFpu s <| fpSign .single (FpFormat.flipSign .single) s fs fd

/-- NEG.D (rule R871). -/
def execFpNegD (fs : FprNum) (fd : FprNum) (s : State) : Result :=
  needFpu s <| fpSign .double (FpFormat.flipSign .double) s fs fd

/-- RECIP.S (rule R872). -/
def execFpRecipS (fs : FprNum) (fd : FprNum) (s : State) : Result :=
  needFpu s <| needMips4Fp s <| fpArith1 .single (Fp.div Fp.one) s fs fd

/-- RECIP.D (rule R872). -/
def execFpRecipD (fs : FprNum) (fd : FprNum) (s : State) : Result :=
  needFpu s <| needMips4Fp s <| fpArith1 .double (Fp.div Fp.one) s fs fd

/-- RSQRT.S (rule R873). -/
def execFpRsqrtS (fs : FprNum) (fd : FprNum) (s : State) : Result :=
  needFpu s <| needMips4Fp s <| fpArith1 .single Fp.rsqrt s fs fd

/-- RSQRT.D (rule R873). -/
def execFpRsqrtD (fs : FprNum) (fd : FprNum) (s : State) : Result :=
  needFpu s <| needMips4Fp s <| fpArith1 .double Fp.rsqrt s fs fd

/-- MADD.S (rule R874). -/
def execFpMaddS (fr : FprNum) (ft : FprNum) (fs : FprNum) (fd : FprNum) (s : State) : Result :=
  needFpu s <| fpMulAdd .single false false s fr ft fs fd

/-- MADD.D (rule R874). -/
def execFpMaddD (fr : FprNum) (ft : FprNum) (fs : FprNum) (fd : FprNum) (s : State) : Result :=
  needFpu s <| fpMulAdd .double false false s fr ft fs fd

/-- MSUB.S (rule R875). -/
def execFpMsubS (fr : FprNum) (ft : FprNum) (fs : FprNum) (fd : FprNum) (s : State) : Result :=
  needFpu s <| fpMulAdd .single true false s fr ft fs fd

/-- MSUB.D (rule R875). -/
def execFpMsubD (fr : FprNum) (ft : FprNum) (fs : FprNum) (fd : FprNum) (s : State) : Result :=
  needFpu s <| fpMulAdd .double true false s fr ft fs fd

/-- NMADD.S (rule R876). -/
def execFpNmaddS (fr : FprNum) (ft : FprNum) (fs : FprNum) (fd : FprNum) (s : State) : Result :=
  needFpu s <| fpMulAdd .single false true s fr ft fs fd

/-- NMADD.D (rule R876). -/
def execFpNmaddD (fr : FprNum) (ft : FprNum) (fs : FprNum) (fd : FprNum) (s : State) : Result :=
  needFpu s <| fpMulAdd .double false true s fr ft fs fd

/-- NMSUB.S (rule R877). -/
def execFpNmsubS (fr : FprNum) (ft : FprNum) (fs : FprNum) (fd : FprNum) (s : State) : Result :=
  needFpu s <| fpMulAdd .single true true s fr ft fs fd

/-- NMSUB.D (rule R877). -/
def execFpNmsubD (fr : FprNum) (ft : FprNum) (fs : FprNum) (fd : FprNum) (s : State) : Result :=
  needFpu s <| fpMulAdd .double true true s fr ft fs fd

/-! ## Conversions (section 4) -/

/-- ROUND.L.S (rule R881). -/
def execFpRoundLS (fs : FprNum) (fd : FprNum) (s : State) : Result := needFpu s <| fpToLong .single .nearest s fs fd

/-- ROUND.L.D (rule R881). -/
def execFpRoundLD (fs : FprNum) (fd : FprNum) (s : State) : Result := needFpu s <| fpToLong .double .nearest s fs fd

/-- TRUNC.L.S (rule R882). -/
def execFpTruncLS (fs : FprNum) (fd : FprNum) (s : State) : Result := needFpu s <| fpToLong .single .toZero s fs fd

/-- TRUNC.L.D (rule R882). -/
def execFpTruncLD (fs : FprNum) (fd : FprNum) (s : State) : Result := needFpu s <| fpToLong .double .toZero s fs fd

/-- CEIL.L.S (rule R883). -/
def execFpCeilLS (fs : FprNum) (fd : FprNum) (s : State) : Result := needFpu s <| fpToLong .single .up s fs fd

/-- CEIL.L.D (rule R883). -/
def execFpCeilLD (fs : FprNum) (fd : FprNum) (s : State) : Result := needFpu s <| fpToLong .double .up s fs fd

/-- FLOOR.L.S (rule R884). -/
def execFpFloorLS (fs : FprNum) (fd : FprNum) (s : State) : Result := needFpu s <| fpToLong .single .down s fs fd

/-- FLOOR.L.D (rule R884). -/
def execFpFloorLD (fs : FprNum) (fd : FprNum) (s : State) : Result := needFpu s <| fpToLong .double .down s fs fd

/-- ROUND.W.S (rule R885). -/
def execFpRoundWS (fs : FprNum) (fd : FprNum) (s : State) : Result := needFpu s <| fpToWord .single .nearest s fs fd

/-- ROUND.W.D (rule R885). -/
def execFpRoundWD (fs : FprNum) (fd : FprNum) (s : State) : Result := needFpu s <| fpToWord .double .nearest s fs fd

/-- TRUNC.W.S (rule R886). -/
def execFpTruncWS (fs : FprNum) (fd : FprNum) (s : State) : Result := needFpu s <| fpToWord .single .toZero s fs fd

/-- TRUNC.W.D (rule R886). -/
def execFpTruncWD (fs : FprNum) (fd : FprNum) (s : State) : Result := needFpu s <| fpToWord .double .toZero s fs fd

/-- CEIL.W.S (rule R887). -/
def execFpCeilWS (fs : FprNum) (fd : FprNum) (s : State) : Result := needFpu s <| fpToWord .single .up s fs fd

/-- CEIL.W.D (rule R887). -/
def execFpCeilWD (fs : FprNum) (fd : FprNum) (s : State) : Result := needFpu s <| fpToWord .double .up s fs fd

/-- FLOOR.W.S (rule R888). -/
def execFpFloorWS (fs : FprNum) (fd : FprNum) (s : State) : Result := needFpu s <| fpToWord .single .down s fs fd

/-- FLOOR.W.D (rule R888). -/
def execFpFloorWD (fs : FprNum) (fd : FprNum) (s : State) : Result := needFpu s <| fpToWord .double .down s fs fd

/-- CVT.S.D (rule R889). -/
def execFpCvtSD (fs : FprNum) (fd : FprNum) (s : State) : Result := needFpu s <| fpConvert .single .double s fs fd

/-- CVT.S.W (rule R889). -/
def execFpCvtSW (fs : FprNum) (fd : FprNum) (s : State) : Result := needFpu s <| fpFromWord .single s fs fd

/-- CVT.S.L (rule R889). -/
def execFpCvtSL (fs : FprNum) (fd : FprNum) (s : State) : Result := needFpu s <| fpFromDword .single s fs fd

/-- CVT.D.S (rule R890). -/
def execFpCvtDS (fs : FprNum) (fd : FprNum) (s : State) : Result := needFpu s <| fpConvert .double .single s fs fd

/-- CVT.D.W (rule R890). -/
def execFpCvtDW (fs : FprNum) (fd : FprNum) (s : State) : Result := needFpu s <| fpFromWord .double s fs fd

/-- CVT.D.L (rule R890). -/
def execFpCvtDL (fs : FprNum) (fd : FprNum) (s : State) : Result := needFpu s <| fpFromDword .double s fs fd

/-- CVT.W.S (rule R891). -/
def execFpCvtWS (fs : FprNum) (fd : FprNum) (s : State) : Result :=
  needFpu s <| fpToWord .single s.fcr31.rounding s fs fd

/-- CVT.W.D (rule R891). -/
def execFpCvtWD (fs : FprNum) (fd : FprNum) (s : State) : Result :=
  needFpu s <| fpToWord .double s.fcr31.rounding s fs fd

/-- CVT.L.S (rule R892). -/
def execFpCvtLS (fs : FprNum) (fd : FprNum) (s : State) : Result :=
  needFpu s <| fpToLong .single s.fcr31.rounding s fs fd

/-- CVT.L.D (rule R892). -/
def execFpCvtLD (fs : FprNum) (fd : FprNum) (s : State) : Result :=
  needFpu s <| fpToLong .double s.fcr31.rounding s fs fd

/-! ## Comparisons (section 5) -/

/-- C.F.S (rule R895). -/
def execFpCFS (ft : FprNum) (fs : FprNum) (cc : BitVec 3) (s : State) : Result :=
  needFpu s <| fpCompare .single 0 s ft fs cc

/-- C.F.D (rule R895). -/
def execFpCFD (ft : FprNum) (fs : FprNum) (cc : BitVec 3) (s : State) : Result :=
  needFpu s <| fpCompare .double 0 s ft fs cc

/-- C.UN.S (rule R895). -/
def execFpCUnS (ft : FprNum) (fs : FprNum) (cc : BitVec 3) (s : State) : Result :=
  needFpu s <| fpCompare .single 1 s ft fs cc

/-- C.UN.D (rule R895). -/
def execFpCUnD (ft : FprNum) (fs : FprNum) (cc : BitVec 3) (s : State) : Result :=
  needFpu s <| fpCompare .double 1 s ft fs cc

/-- C.EQ.S (rule R895). -/
def execFpCEqS (ft : FprNum) (fs : FprNum) (cc : BitVec 3) (s : State) : Result :=
  needFpu s <| fpCompare .single 2 s ft fs cc

/-- C.EQ.D (rule R895). -/
def execFpCEqD (ft : FprNum) (fs : FprNum) (cc : BitVec 3) (s : State) : Result :=
  needFpu s <| fpCompare .double 2 s ft fs cc

/-- C.UEQ.S (rule R895). -/
def execFpCUeqS (ft : FprNum) (fs : FprNum) (cc : BitVec 3) (s : State) : Result :=
  needFpu s <| fpCompare .single 3 s ft fs cc

/-- C.UEQ.D (rule R895). -/
def execFpCUeqD (ft : FprNum) (fs : FprNum) (cc : BitVec 3) (s : State) : Result :=
  needFpu s <| fpCompare .double 3 s ft fs cc

/-- C.OLT.S (rule R895). -/
def execFpCOltS (ft : FprNum) (fs : FprNum) (cc : BitVec 3) (s : State) : Result :=
  needFpu s <| fpCompare .single 4 s ft fs cc

/-- C.OLT.D (rule R895). -/
def execFpCOltD (ft : FprNum) (fs : FprNum) (cc : BitVec 3) (s : State) : Result :=
  needFpu s <| fpCompare .double 4 s ft fs cc

/-- C.ULT.S (rule R895). -/
def execFpCUltS (ft : FprNum) (fs : FprNum) (cc : BitVec 3) (s : State) : Result :=
  needFpu s <| fpCompare .single 5 s ft fs cc

/-- C.ULT.D (rule R895). -/
def execFpCUltD (ft : FprNum) (fs : FprNum) (cc : BitVec 3) (s : State) : Result :=
  needFpu s <| fpCompare .double 5 s ft fs cc

/-- C.OLE.S (rule R895). -/
def execFpCOleS (ft : FprNum) (fs : FprNum) (cc : BitVec 3) (s : State) : Result :=
  needFpu s <| fpCompare .single 6 s ft fs cc

/-- C.OLE.D (rule R895). -/
def execFpCOleD (ft : FprNum) (fs : FprNum) (cc : BitVec 3) (s : State) : Result :=
  needFpu s <| fpCompare .double 6 s ft fs cc

/-- C.ULE.S (rule R895). -/
def execFpCUleS (ft : FprNum) (fs : FprNum) (cc : BitVec 3) (s : State) : Result :=
  needFpu s <| fpCompare .single 7 s ft fs cc

/-- C.ULE.D (rule R895). -/
def execFpCUleD (ft : FprNum) (fs : FprNum) (cc : BitVec 3) (s : State) : Result :=
  needFpu s <| fpCompare .double 7 s ft fs cc

/-- C.SF.S (rule R895). -/
def execFpCSfS (ft : FprNum) (fs : FprNum) (cc : BitVec 3) (s : State) : Result :=
  needFpu s <| fpCompare .single 8 s ft fs cc

/-- C.SF.D (rule R895). -/
def execFpCSfD (ft : FprNum) (fs : FprNum) (cc : BitVec 3) (s : State) : Result :=
  needFpu s <| fpCompare .double 8 s ft fs cc

/-- C.NGLE.S (rule R895). -/
def execFpCNgleS (ft : FprNum) (fs : FprNum) (cc : BitVec 3) (s : State) : Result :=
  needFpu s <| fpCompare .single 9 s ft fs cc

/-- C.NGLE.D (rule R895). -/
def execFpCNgleD (ft : FprNum) (fs : FprNum) (cc : BitVec 3) (s : State) : Result :=
  needFpu s <| fpCompare .double 9 s ft fs cc

/-- C.SEQ.S (rule R895). -/
def execFpCSeqS (ft : FprNum) (fs : FprNum) (cc : BitVec 3) (s : State) : Result :=
  needFpu s <| fpCompare .single 10 s ft fs cc

/-- C.SEQ.D (rule R895). -/
def execFpCSeqD (ft : FprNum) (fs : FprNum) (cc : BitVec 3) (s : State) : Result :=
  needFpu s <| fpCompare .double 10 s ft fs cc

/-- C.NGL.S (rule R895). -/
def execFpCNglS (ft : FprNum) (fs : FprNum) (cc : BitVec 3) (s : State) : Result :=
  needFpu s <| fpCompare .single 11 s ft fs cc

/-- C.NGL.D (rule R895). -/
def execFpCNglD (ft : FprNum) (fs : FprNum) (cc : BitVec 3) (s : State) : Result :=
  needFpu s <| fpCompare .double 11 s ft fs cc

/-- C.LT.S (rule R895). -/
def execFpCLtS (ft : FprNum) (fs : FprNum) (cc : BitVec 3) (s : State) : Result :=
  needFpu s <| fpCompare .single 12 s ft fs cc

/-- C.LT.D (rule R895). -/
def execFpCLtD (ft : FprNum) (fs : FprNum) (cc : BitVec 3) (s : State) : Result :=
  needFpu s <| fpCompare .double 12 s ft fs cc

/-- C.NGE.S (rule R895). -/
def execFpCNgeS (ft : FprNum) (fs : FprNum) (cc : BitVec 3) (s : State) : Result :=
  needFpu s <| fpCompare .single 13 s ft fs cc

/-- C.NGE.D (rule R895). -/
def execFpCNgeD (ft : FprNum) (fs : FprNum) (cc : BitVec 3) (s : State) : Result :=
  needFpu s <| fpCompare .double 13 s ft fs cc

/-- C.LE.S (rule R895). -/
def execFpCLeS (ft : FprNum) (fs : FprNum) (cc : BitVec 3) (s : State) : Result :=
  needFpu s <| fpCompare .single 14 s ft fs cc

/-- C.LE.D (rule R895). -/
def execFpCLeD (ft : FprNum) (fs : FprNum) (cc : BitVec 3) (s : State) : Result :=
  needFpu s <| fpCompare .double 14 s ft fs cc

/-- C.NGT.S (rule R895). -/
def execFpCNgtS (ft : FprNum) (fs : FprNum) (cc : BitVec 3) (s : State) : Result :=
  needFpu s <| fpCompare .single 15 s ft fs cc

/-- C.NGT.D (rule R895). -/
def execFpCNgtD (ft : FprNum) (fs : FprNum) (cc : BitVec 3) (s : State) : Result :=
  needFpu s <| fpCompare .double 15 s ft fs cc

end Sys2Proof.Machine
end

