-- ==== Sys2Proof/Machine/Load.lean ====
section
/-! DEFINITION. The loads of the CPU (40_load_store.md sections 2, 3 and 6). -/

namespace Sys2Proof.Machine

/-! ## Aligned loads (section 2) -/

/-- LB (rule R307). -/
def execLb (base : RegNum) (rt : RegNum) (offset : BitVec 16) (s : State) : Result :=
  loadReg s (s.effAddr base offset) 1 rt fun v => (v.setWidth 8).signExtend 64

/-- LBU (rule R308). -/
def execLbu (base : RegNum) (rt : RegNum) (offset : BitVec 16) (s : State) : Result :=
  loadReg s (s.effAddr base offset) 1 rt id

/-- LH (rule R309). -/
def execLh (base : RegNum) (rt : RegNum) (offset : BitVec 16) (s : State) : Result :=
  loadReg s (s.effAddr base offset) 2 rt fun v => (v.setWidth 16).signExtend 64

/-- LHU (rule R310). -/
def execLhu (base : RegNum) (rt : RegNum) (offset : BitVec 16) (s : State) : Result :=
  loadReg s (s.effAddr base offset) 2 rt id

/-- LW (rule R311). -/
def execLw (base : RegNum) (rt : RegNum) (offset : BitVec 16) (s : State) : Result :=
  loadReg s (s.effAddr base offset) 4 rt fun v => sext (low v)

/-- LWU (rule R312). -/
def execLwu (base : RegNum) (rt : RegNum) (offset : BitVec 16) (s : State) : Result :=
  need64 s <| loadReg s (s.effAddr base offset) 4 rt id

/-- LD (rule R313). -/
def execLd (base : RegNum) (rt : RegNum) (offset : BitVec 16) (s : State) : Result :=
  need64 s <| loadReg s (s.effAddr base offset) 8 rt id

/-! ## Left and right loads (section 3)

They look at the aligned doubleword of the address; the merge lets only the bytes of the rule's table through. -/

/-- A left or right load: an unaligned access whose value `f` makes of the physical address. -/
def loadPart (s : State) (va : Dword) (rt : RegNum) (f : PAddr → Dword) : Result :=
  withData s va 1 false fun pa _ => .next ((s.setReg rt (f pa)).noteAccess.advance)

/-- LWL (rule R314). -/
def execLwl (base : RegNum) (rt : RegNum) (offset : BitVec 16) (s : State) : Result :=
  let va := s.effAddr base offset
  loadPart s va rt fun pa => sext (mergeLeft (s.wordAt pa va) (low (s.reg rt)) (24 - 8 * s.byteInWord va))

/-- LWR (rule R315). -/
def execLwr (base : RegNum) (rt : RegNum) (offset : BitVec 16) (s : State) : Result :=
  let va := s.effAddr base offset
  loadPart s va rt fun pa => sext (mergeRight (s.wordAt pa va) (low (s.reg rt)) (8 * s.byteInWord va))

/-- LDL (rule R316). -/
def execLdl (base : RegNum) (rt : RegNum) (offset : BitVec 16) (s : State) : Result :=
  need64 s <|
    let va := s.effAddr base offset
    loadPart s va rt fun pa => mergeLeft (s.memRead (dwordBase pa) 8) (s.reg rt) (56 - 8 * s.byteInDword va)

/-- LDR (rule R317). -/
def execLdr (base : RegNum) (rt : RegNum) (offset : BitVec 16) (s : State) : Result :=
  need64 s <|
    let va := s.effAddr base offset
    loadPart s va rt fun pa => mergeRight (s.memRead (dwordBase pa) 8) (s.reg rt) (8 * s.byteInDword va)

/-! ## Load linked (section 6) -/

/-- LL and LLD: a load that sets the LL bit; undefined at an uncached address (item U5, log 24). -/
def loadLinked (s : State) (va : Dword) (n : Nat) (rt : RegNum) (f : Dword → Dword) : Result :=
  withData s va n false fun pa attr =>
    if isCacheable attr then .next ((s.setReg rt (f (s.memRead pa n))).setLink pa).advance else .refused .llUncached

/-- LL (rule R326). -/
def execLl (base : RegNum) (rt : RegNum) (offset : BitVec 16) (s : State) : Result :=
  loadLinked s (s.effAddr base offset) 4 rt fun v => sext (low v)

/-- LLD (rule R327). -/
def execLld (base : RegNum) (rt : RegNum) (offset : BitVec 16) (s : State) : Result :=
  need64 s <| loadLinked s (s.effAddr base offset) 8 rt id

end Sys2Proof.Machine
end

