-- ==== Sys2Proof/Machine/MulDiv.lean ====
section
/-! DEFINITION. Multiply, divide, the moves of HI and LO and the sums of products (42_muldiv.md). -/

namespace Sys2Proof.Machine

/-! ## Common operations -/

/-- The signed product of two words (rule R500). -/
def productS (a b : Word) : Dword := sext a * sext b

/-- The unsigned product of two words (rule R500). -/
def productU (a b : Word) : Dword := a.setWidth 64 * b.setWidth 64

/-- The accumulator (rule R500). -/
def State.acc (s : State) : Dword := low s.hi ++ low s.lo

/-- The halves of a doubleword, sign-extended, into HI and LO (rule R501). -/
def State.setAcc (s : State) (t : Dword) : State := s.setHiLo (sext (high t)) (sext (low t))

/-- The end of MULT, MULTU, DIV and DIVU. HI and LO are undefined when an operand is not a sign-extended 32-bit value
or the divisor is 0 (items U3 and U4, log 18, log 19). -/
def writeHiLoWords (s : State) (defined : Bool) (hi lo : Word) : Result :=
  if defined then .next ((s.setHiLo (sext hi) (sext lo)).setHiLoFresh true).advance
  else .next (((s.setHiLo (s.free 0) (s.free 1)).drew 2).setHiLoFresh true).advance

/-- The end of a doubleword division: HI and LO are undefined when the divisor is 0 (item U4, log 19). -/
def writeHiLoDiv (s : State) (divisor hi lo : Dword) : Result :=
  if divisor = 0 then .next ((s.setHiLo (s.free 0) (s.free 1)).drew 2).advance
  else .next (s.setHiLo hi lo).advance

/-- The common end of the MACC family that answers the low word (rule R538). -/
def maccLow (s : State) (rd : RegNum) (t : Dword) : Result := .next ((s.setAcc t).setReg rd (sext (low t))).advance

/-- The common end of the MACC family that answers the high word (rule R538). -/
def maccHigh (s : State) (rd : RegNum) (t : Dword) : Result := .next ((s.setAcc t).setReg rd (sext (high t))).advance

/-! ## Multiply and divide (section 2) -/

/-- MULT (rule R504). -/
def execMult (rs : RegNum) (rt : RegNum) (s : State) : Result :=
  let t := productS (low (s.reg rs)) (low (s.reg rt))
  writeHiLoWords s (isSext (s.reg rs) && isSext (s.reg rt)) (high t) (low t)

/-- MULTU (rule R505). -/
def execMultu (rs : RegNum) (rt : RegNum) (s : State) : Result :=
  let t := productU (low (s.reg rs)) (low (s.reg rt))
  writeHiLoWords s (isSext (s.reg rs) && isSext (s.reg rt)) (high t) (low t)

/-- DIV (rule R506). -/
def execDiv (rs : RegNum) (rt : RegNum) (s : State) : Result :=
  let a := (low (s.reg rs)).toInt
  let b := (low (s.reg rt)).toInt
  writeHiLoWords s (isSext (s.reg rs) && isSext (s.reg rt) && low (s.reg rt) != 0)
    (BitVec.ofInt 32 (a.tmod b)) (BitVec.ofInt 32 (a.tdiv b))

/-- DIVU (rule R507). -/
def execDivu (rs : RegNum) (rt : RegNum) (s : State) : Result :=
  let a := (low (s.reg rs)).toNat
  let b := (low (s.reg rt)).toNat
  writeHiLoWords s (isSext (s.reg rs) && isSext (s.reg rt) && low (s.reg rt) != 0)
    (BitVec.ofNat 32 (a % b)) (BitVec.ofNat 32 (a / b))

/-- DMULT (rule R508). -/
def execDmult (rs : RegNum) (rt : RegNum) (s : State) : Result :=
  need64 s <|
    let t := (s.reg rs).signExtend 128 * (s.reg rt).signExtend 128
    .next (s.setHiLo (t.extractLsb' 64 64) (t.extractLsb' 0 64)).advance

/-- DMULTU (rule R509). -/
def execDmultu (rs : RegNum) (rt : RegNum) (s : State) : Result :=
  need64 s <|
    let t := (s.reg rs).setWidth 128 * (s.reg rt).setWidth 128
    .next (s.setHiLo (t.extractLsb' 64 64) (t.extractLsb' 0 64)).advance

/-- DDIV (rule R510). -/
def execDdiv (rs : RegNum) (rt : RegNum) (s : State) : Result :=
  need64 s <|
    writeHiLoDiv s (s.reg rt) (BitVec.ofInt 64 ((s.reg rs).toInt.tmod (s.reg rt).toInt))
      (BitVec.ofInt 64 ((s.reg rs).toInt.tdiv (s.reg rt).toInt))

/-- DDIVU (rule R511). -/
def execDdivu (rs : RegNum) (rt : RegNum) (s : State) : Result :=
  need64 s <|
    writeHiLoDiv s (s.reg rt) (BitVec.ofNat 64 ((s.reg rs).toNat % (s.reg rt).toNat))
      (BitVec.ofNat 64 ((s.reg rs).toNat / (s.reg rt).toNat))

/-! ## Moves of HI and LO (rules R512 to R515, item U7, log 20) -/

/-- MFHI (rule R512). -/
def execMfhi (rd : RegNum) (s : State) : Result := .next ((s.setReg rd s.hi).setHiLoFresh false).advance

/-- MFLO (rule R513). -/
def execMflo (rd : RegNum) (s : State) : Result := .next ((s.setReg rd s.lo).setHiLoFresh false).advance

/-- MTHI (rule R514): after a MULT, MULTU, DIV or DIVU, LO is undefined. -/
def execMthi (rs : RegNum) (s : State) : Result :=
  if s.hiLoFresh then .next (((s.setHiLo (s.reg rs) (s.free 0)).drew 1).setHiLoFresh false).advance
  else .next (s.setHiLo (s.reg rs) s.lo).advance

/-- MTLO (rule R515): after a MULT, MULTU, DIV or DIVU, HI is undefined. -/
def execMtlo (rs : RegNum) (s : State) : Result :=
  if s.hiLoFresh then .next (((s.setHiLo (s.free 0) (s.reg rs)).drew 1).setHiLoFresh false).advance
  else .next (s.setHiLo s.hi (s.reg rs)).advance

/-! ## Sums of products (section 3) -/

/-- MADD (rule R516). -/
def execMadd (rs : RegNum) (rt : RegNum) (s : State) : Result :=
  .next (s.setAcc (s.acc + productS (low (s.reg rs)) (low (s.reg rt)))).advance

/-- MADDU (rule R517). -/
def execMaddu (rs : RegNum) (rt : RegNum) (s : State) : Result :=
  .next (s.setAcc (s.acc + productU (low (s.reg rs)) (low (s.reg rt)))).advance

/-- MSUB (rule R518). -/
def execMsub (rs : RegNum) (rt : RegNum) (s : State) : Result :=
  .next (s.setAcc (s.acc - productS (low (s.reg rs)) (low (s.reg rt)))).advance

/-- MSUBU (rule R519). -/
def execMsubu (rs : RegNum) (rt : RegNum) (s : State) : Result :=
  .next (s.setAcc (s.acc - productU (low (s.reg rs)) (low (s.reg rt)))).advance

/-- MUL64 (rule R520): HI and LO are undefined afterwards (item U8, log 21). -/
def execMul64 (rs : RegNum) (rt : RegNum) (rd : RegNum) (s : State) : Result :=
  let t := productS (low (s.reg rs)) (low (s.reg rt))
  .next (((s.setReg rd (sext (low t))).setHiLo (s.free 0) (s.free 1)).drew 2).advance

/-! ## The MACC family (section 4) -/

/-- MACC (rule R521). -/
def execMacc (rs : RegNum) (rt : RegNum) (rd : RegNum) (s : State) : Result :=
  maccLow s rd (s.acc + productS (low (s.reg rs)) (low (s.reg rt)))

/-- MACCHI (rule R522). -/
def execMacchi (rs : RegNum) (rt : RegNum) (rd : RegNum) (s : State) : Result :=
  maccHigh s rd (s.acc + productS (low (s.reg rs)) (low (s.reg rt)))

/-- MACCHIU (rule R523). -/
def execMacchiu (rs : RegNum) (rt : RegNum) (rd : RegNum) (s : State) : Result :=
  maccHigh s rd (s.acc + productU (low (s.reg rs)) (low (s.reg rt)))

/-- MACCU (rule R524). -/
def execMaccu (rs : RegNum) (rt : RegNum) (rd : RegNum) (s : State) : Result :=
  maccLow s rd (s.acc + productU (low (s.reg rs)) (low (s.reg rt)))

/-- MSAC (rule R525). -/
def execMsac (rs : RegNum) (rt : RegNum) (rd : RegNum) (s : State) : Result :=
  maccLow s rd (s.acc - productS (low (s.reg rs)) (low (s.reg rt)))

/-- MSACHI (rule R526). -/
def execMsachi (rs : RegNum) (rt : RegNum) (rd : RegNum) (s : State) : Result :=
  maccHigh s rd (s.acc - productS (low (s.reg rs)) (low (s.reg rt)))

/-- MSACHIU (rule R527). -/
def execMsachiu (rs : RegNum) (rt : RegNum) (rd : RegNum) (s : State) : Result :=
  maccHigh s rd (s.acc - productU (low (s.reg rs)) (low (s.reg rt)))

/-- MSACU (rule R528). -/
def execMsacu (rs : RegNum) (rt : RegNum) (rd : RegNum) (s : State) : Result :=
  maccLow s rd (s.acc - productU (low (s.reg rs)) (low (s.reg rt)))

/-- MUL (rule R529). -/
def execMul (rs : RegNum) (rt : RegNum) (rd : RegNum) (s : State) : Result :=
  maccLow s rd (productS (low (s.reg rs)) (low (s.reg rt)))

/-- MULHI (rule R530). -/
def execMulhi (rs : RegNum) (rt : RegNum) (rd : RegNum) (s : State) : Result :=
  maccHigh s rd (productS (low (s.reg rs)) (low (s.reg rt)))

/-- MULHIU (rule R531). -/
def execMulhiu (rs : RegNum) (rt : RegNum) (rd : RegNum) (s : State) : Result :=
  maccHigh s rd (productU (low (s.reg rs)) (low (s.reg rt)))

/-- MULS (rule R532). -/
def execMuls (rs : RegNum) (rt : RegNum) (rd : RegNum) (s : State) : Result :=
  maccLow s rd (0 - productS (low (s.reg rs)) (low (s.reg rt)))

/-- MULSHI (rule R533). -/
def execMulshi (rs : RegNum) (rt : RegNum) (rd : RegNum) (s : State) : Result :=
  maccHigh s rd (0 - productS (low (s.reg rs)) (low (s.reg rt)))

/-- MULSHIU (rule R534). -/
def execMulshiu (rs : RegNum) (rt : RegNum) (rd : RegNum) (s : State) : Result :=
  maccHigh s rd (0 - productU (low (s.reg rs)) (low (s.reg rt)))

/-- MULSU (rule R535). -/
def execMulsu (rs : RegNum) (rt : RegNum) (rd : RegNum) (s : State) : Result :=
  maccLow s rd (0 - productU (low (s.reg rs)) (low (s.reg rt)))

/-- MULU (rule R536). -/
def execMulu (rs : RegNum) (rt : RegNum) (rd : RegNum) (s : State) : Result :=
  maccLow s rd (productU (low (s.reg rs)) (low (s.reg rt)))

end Sys2Proof.Machine
end

