-- ==== Sys2Proof/Machine/Shift.lean ====
section
/-! DEFINITION. Shifts and rotates (41_alu.md sections 4 and 5). -/

namespace Sys2Proof.Machine

/-! ## Shift amounts -/

/-- The amount of a 32-bit variable shift: the low five bits of a register. -/
def shift5 (v : Dword) : Nat := (v.extractLsb' 0 5).toNat

/-- The amount of a 64-bit variable shift: the low six bits of a register. -/
def shift6 (v : Dword) : Nat := (v.extractLsb' 0 6).toNat

/-! ## 32-bit shifts -/

/-- SLL (rule R430). -/
def execSll (rt : RegNum) (rd : RegNum) (sa : BitVec 5) (s : State) : Result :=
  writeReg s rd (sext (low (s.reg rt) <<< sa.toNat))

/-- SSNOP: an SLL of r0 (rule R430; 44_special_trap.md rule R653). -/
def execSsnop (s : State) : Result := .next s.advance

/-- SRL (rule R431). -/
def execSrl (rt : RegNum) (rd : RegNum) (sa : BitVec 5) (s : State) : Result :=
  writeWord s (isSext (s.reg rt)) rd (low (s.reg rt) >>> sa.toNat)

/-- SRA (rule R432). -/
def execSra (rt : RegNum) (rd : RegNum) (sa : BitVec 5) (s : State) : Result :=
  writeWord s (isSext (s.reg rt)) rd ((low (s.reg rt)).sshiftRight sa.toNat)

/-- SLLV (rule R433). -/
def execSllv (rs : RegNum) (rt : RegNum) (rd : RegNum) (s : State) : Result :=
  writeReg s rd (sext (low (s.reg rt) <<< shift5 (s.reg rs)))

/-- SRLV (rule R434). -/
def execSrlv (rs : RegNum) (rt : RegNum) (rd : RegNum) (s : State) : Result :=
  writeWord s (isSext (s.reg rs) && isSext (s.reg rt)) rd (low (s.reg rt) >>> shift5 (s.reg rs))

/-- SRAV (rule R435). -/
def execSrav (rs : RegNum) (rt : RegNum) (rd : RegNum) (s : State) : Result :=
  writeWord s (isSext (s.reg rs) && isSext (s.reg rt)) rd ((low (s.reg rt)).sshiftRight (shift5 (s.reg rs)))

/-! ## 64-bit shifts -/

/-- DSLL (rule R436). -/
def execDsll (rt : RegNum) (rd : RegNum) (sa : BitVec 5) (s : State) : Result :=
  need64 s <| writeReg s rd (s.reg rt <<< sa.toNat)

/-- DSRL (rule R437). -/
def execDsrl (rt : RegNum) (rd : RegNum) (sa : BitVec 5) (s : State) : Result :=
  need64 s <| writeReg s rd (s.reg rt >>> sa.toNat)

/-- DSRA (rule R438). -/
def execDsra (rt : RegNum) (rd : RegNum) (sa : BitVec 5) (s : State) : Result :=
  need64 s <| writeReg s rd ((s.reg rt).sshiftRight sa.toNat)

/-- DSLLV (rule R439). -/
def execDsllv (rs : RegNum) (rt : RegNum) (rd : RegNum) (s : State) : Result :=
  need64 s <| writeReg s rd (s.reg rt <<< shift6 (s.reg rs))

/-- DSRLV (rule R440). -/
def execDsrlv (rs : RegNum) (rt : RegNum) (rd : RegNum) (s : State) : Result :=
  need64 s <| writeReg s rd (s.reg rt >>> shift6 (s.reg rs))

/-- DSRAV (rule R441). -/
def execDsrav (rs : RegNum) (rt : RegNum) (rd : RegNum) (s : State) : Result :=
  need64 s <| writeReg s rd ((s.reg rt).sshiftRight (shift6 (s.reg rs)))

/-- DSLL32 (rule R442). -/
def execDsll32 (rt : RegNum) (rd : RegNum) (sa : BitVec 5) (s : State) : Result :=
  need64 s <| writeReg s rd (s.reg rt <<< (32 + sa.toNat))

/-- DSRL32 (rule R443). -/
def execDsrl32 (rt : RegNum) (rd : RegNum) (sa : BitVec 5) (s : State) : Result :=
  need64 s <| writeReg s rd (s.reg rt >>> (32 + sa.toNat))

/-- DSRA32 (rule R444). -/
def execDsra32 (rt : RegNum) (rd : RegNum) (sa : BitVec 5) (s : State) : Result :=
  need64 s <| writeReg s rd ((s.reg rt).sshiftRight (32 + sa.toNat))

/-! ## Rotates (section 5) -/

/-- ROR (rule R445). -/
def execRor (rt : RegNum) (rd : RegNum) (sa : BitVec 5) (s : State) : Result :=
  writeReg s rd (sext ((low (s.reg rt)).rotateRight sa.toNat))

/-- RORV (rule R446). -/
def execRorv (rs : RegNum) (rt : RegNum) (rd : RegNum) (s : State) : Result :=
  writeReg s rd (sext ((low (s.reg rt)).rotateRight (shift5 (s.reg rs))))

/-- DROR (rule R447). -/
def execDror (rt : RegNum) (rd : RegNum) (sa : BitVec 5) (s : State) : Result :=
  need64 s <| writeReg s rd ((s.reg rt).rotateRight sa.toNat)

/-- DROR32 (rule R448). -/
def execDror32 (rt : RegNum) (rd : RegNum) (sa : BitVec 5) (s : State) : Result :=
  need64 s <| writeReg s rd ((s.reg rt).rotateRight (32 + sa.toNat))

/-- DRORV (rule R449): by the low five bits of rs. -/
def execDrorv (rs : RegNum) (rt : RegNum) (rd : RegNum) (s : State) : Result :=
  need64 s <| writeReg s rd ((s.reg rt).rotateRight (shift5 (s.reg rs)))

end Sys2Proof.Machine
end

