-- ==== Sys2Proof/Machine/Store.lean ====
section
/-! DEFINITION. The stores of the CPU (40_load_store.md sections 4, 5 and 6). -/

namespace Sys2Proof.Machine

/-! ## Aligned stores (section 4) -/

/-- SB (rule R318). -/
def execSb (base : RegNum) (rt : RegNum) (offset : BitVec 16) (s : State) : Result :=
  storeBytes s (s.effAddr base offset) 1 (s.reg rt)

/-- SH (rule R319). -/
def execSh (base : RegNum) (rt : RegNum) (offset : BitVec 16) (s : State) : Result :=
  storeBytes s (s.effAddr base offset) 2 (s.reg rt)

/-- SW (rule R320). -/
def execSw (base : RegNum) (rt : RegNum) (offset : BitVec 16) (s : State) : Result :=
  storeBytes s (s.effAddr base offset) 4 (s.reg rt)

/-- SD (rule R321). -/
def execSd (base : RegNum) (rt : RegNum) (offset : BitVec 16) (s : State) : Result :=
  need64 s <| storeBytes s (s.effAddr base offset) 8 (s.reg rt)

/-! ## Left and right stores (section 5) -/

/-- A store of the `n` bytes `v` from the byte `first pa n` on: an unaligned access. -/
def storePart (s : State) (va : Dword) (first : PAddr → Nat → PAddr) (n : Nat) (v : Dword) : Result :=
  withData s va 1 true fun pa _ => .next ((s.memWrite (first pa n) n v).noteAccess.advance)

/-- SWL (rule R322): bits 31 down to 24 - 8 * byte. -/
def execSwl (base : RegNum) (rt : RegNum) (offset : BitVec 16) (s : State) : Result :=
  let byte := s.byteInWord (s.effAddr base offset)
  storePart s (s.effAddr base offset) s.leftStoreBase (byte + 1)
    ((low (s.reg rt) >>> (24 - 8 * byte)).setWidth 64)

/-- SWR (rule R323): bits 31 - 8 * byte down to 0. -/
def execSwr (base : RegNum) (rt : RegNum) (offset : BitVec 16) (s : State) : Result :=
  let byte := s.byteInWord (s.effAddr base offset)
  storePart s (s.effAddr base offset) s.rightStoreBase (4 - byte) (s.reg rt)

/-- SDL (rule R324): bits 63 down to 56 - 8 * byte. -/
def execSdl (base : RegNum) (rt : RegNum) (offset : BitVec 16) (s : State) : Result :=
  need64 s <|
    let byte := s.byteInDword (s.effAddr base offset)
    storePart s (s.effAddr base offset) s.leftStoreBase (byte + 1) (s.reg rt >>> (56 - 8 * byte))

/-- SDR (rule R325): bits 63 - 8 * byte down to 0. -/
def execSdr (base : RegNum) (rt : RegNum) (offset : BitVec 16) (s : State) : Result :=
  need64 s <|
    let byte := s.byteInDword (s.effAddr base offset)
    storePart s (s.effAddr base offset) s.rightStoreBase (8 - byte) (s.reg rt)

/-! ## Store conditional (section 6) -/

/-- Whether a store conditional with the LL bit set succeeds: after a load or store since the last LL its outcome is
not guaranteed (item U13, log 26). -/
def State.scSucceeds (s : State) : Bool := !s.llDisturbed || (s.free 0).getLsbD 0

/-- The free value that the outcome took. -/
def State.scDrew (s : State) : State := s.drew (if s.llDisturbed then 1 else 0)

/-- SC and SCD (rule R328): the address and TLB checks come first, whether or not the LL bit is set; the store and what
only an access can raise come with the LL bit. DEDUCED: a clause of 60_exceptions.md rule R1011 has no translation
without the LL bit, against R328, its own source (log 27). The LL bit is left as it is. -/
def storeConditional (s : State) (va : Dword) (n : Nat) (rt : RegNum) : Result :=
  match s.dataAddr va n true with
  | .error e => raise e s
  | .ok (pa, attr) =>
    if !s.llBit then .next (s.setReg rt 0).advance
    else if s.linkAddr != pa then .refused .scAddressMismatch
    else if !s.scSucceeds then .next (s.scDrew.setReg rt 0).advance
    else match s.accessFault pa attr true with
      | some e => raise e s.scDrew
      | none => .next (((s.scDrew.memWrite pa n (s.reg rt)).setReg rt 1).noteAccess.advance)

/-- SC (rule R328). -/
def execSc (base : RegNum) (rt : RegNum) (offset : BitVec 16) (s : State) : Result :=
  storeConditional s (s.effAddr base offset) 4 rt

/-- SCD (rule R329). -/
def execScd (base : RegNum) (rt : RegNum) (offset : BitVec 16) (s : State) : Result :=
  need64 s <| storeConditional s (s.effAddr base offset) 8 rt

end Sys2Proof.Machine
end

