-- ==== Sys2Proof/Machine/Trap.lean ====
section
/-! DEFINITION. System calls, breakpoints, traps, SYNC and PREF (44_special_trap.md). -/

namespace Sys2Proof.Machine

/-- A conditional trap (rule R655). -/
def trapIf (s : State) (condition : Bool) : Result := if condition then raise .trap s else .next s.advance

/-- SYSCALL (rule R650). -/
def execSyscall (_code : BitVec 20) (s : State) : Result := raise .syscall s

/-- BREAK (rule R651). -/
def execBreakpoint (_code : BitVec 20) (s : State) : Result := raise .breakpoint s

/-- SYNC: a NOP but for the order of bus requests (rule R652, log 59). -/
def execSync (_stype : BitVec 5) (s : State) : Result := .next s.advance

/-- PREF: an advisory operation that changes nothing and raises only the gate (rule R654). -/
def execPref (_base : RegNum) (_hint : BitVec 5) (_offset : BitVec 16) (s : State) : Result :=
  needMips4 s <| .next s.advance

/-- TGE (rule R656). -/
def execTge (rs : RegNum) (rt : RegNum) (_code : BitVec 10) (s : State) : Result :=
  trapIf s (!(s.reg rs).slt (s.reg rt))

/-- TGEU (rule R657). -/
def execTgeu (rs : RegNum) (rt : RegNum) (_code : BitVec 10) (s : State) : Result :=
  trapIf s (!(s.reg rs).ult (s.reg rt))

/-- TLT (rule R658). -/
def execTlt (rs : RegNum) (rt : RegNum) (_code : BitVec 10) (s : State) : Result :=
  trapIf s ((s.reg rs).slt (s.reg rt))

/-- TLTU (rule R659). -/
def execTltu (rs : RegNum) (rt : RegNum) (_code : BitVec 10) (s : State) : Result :=
  trapIf s ((s.reg rs).ult (s.reg rt))

/-- TEQ (rule R660). -/
def execTeq (rs : RegNum) (rt : RegNum) (_code : BitVec 10) (s : State) : Result := trapIf s (s.reg rs == s.reg rt)

/-- TNE (rule R661). -/
def execTne (rs : RegNum) (rt : RegNum) (_code : BitVec 10) (s : State) : Result := trapIf s (s.reg rs != s.reg rt)

/-- TGEI (rule R662). -/
def execTgei (rs : RegNum) (imm : BitVec 16) (s : State) : Result := trapIf s (!(s.reg rs).slt (simm imm))

/-- TGEIU (rule R663). -/
def execTgeiu (rs : RegNum) (imm : BitVec 16) (s : State) : Result := trapIf s (!(s.reg rs).ult (simm imm))

/-- TLTI (rule R664). -/
def execTlti (rs : RegNum) (imm : BitVec 16) (s : State) : Result := trapIf s ((s.reg rs).slt (simm imm))

/-- TLTIU (rule R665). -/
def execTltiu (rs : RegNum) (imm : BitVec 16) (s : State) : Result := trapIf s ((s.reg rs).ult (simm imm))

/-- TEQI (rule R666). -/
def execTeqi (rs : RegNum) (imm : BitVec 16) (s : State) : Result := trapIf s (s.reg rs == simm imm)

/-- TNEI (rule R667). -/
def execTnei (rs : RegNum) (imm : BitVec 16) (s : State) : Result := trapIf s (s.reg rs != simm imm)

end Sys2Proof.Machine
end

