-- ==== Sys2Proof/Machine/Dispatch.lean ====
section
/-! DEFINITION. The meaning of every instruction: one arm for each constructor of `Instr`, in the order of
spec/opcode_table.json. -/

namespace Sys2Proof.Machine

/-- Run one instruction (30_encoding.md rule R215 and the rules each meaning cites). -/
def exec (i : Instr) (s : State) : Host.Outcome State Fault Refusal :=
  match i with
  | .addi rs rt imm => Sys2Proof.Machine.execAddi rs rt imm s
  | .addiu rs rt imm => Sys2Proof.Machine.execAddiu rs rt imm s
  | .slti rs rt imm => Sys2Proof.Machine.execSlti rs rt imm s
  | .sltiu rs rt imm => Sys2Proof.Machine.execSltiu rs rt imm s
  | .andi rs rt imm => Sys2Proof.Machine.execAndi rs rt imm s
  | .ori rs rt imm => Sys2Proof.Machine.execOri rs rt imm s
  | .xori rs rt imm => Sys2Proof.Machine.execXori rs rt imm s
  | .daddi rs rt imm => Sys2Proof.Machine.execDaddi rs rt imm s
  | .daddiu rs rt imm => Sys2Proof.Machine.execDaddiu rs rt imm s
  | .lui rt imm => Sys2Proof.Machine.execLui rt imm s
  | .lb base rt offset => Sys2Proof.Machine.execLb base rt offset s
  | .lh base rt offset => Sys2Proof.Machine.execLh base rt offset s
  | .lwl base rt offset => Sys2Proof.Machine.execLwl base rt offset s
  | .lw base rt offset => Sys2Proof.Machine.execLw base rt offset s
  | .lbu base rt offset => Sys2Proof.Machine.execLbu base rt offset s
  | .lhu base rt offset => Sys2Proof.Machine.execLhu base rt offset s
  | .lwr base rt offset => Sys2Proof.Machine.execLwr base rt offset s
  | .lwu base rt offset => Sys2Proof.Machine.execLwu base rt offset s
  | .sb base rt offset => Sys2Proof.Machine.execSb base rt offset s
  | .sh base rt offset => Sys2Proof.Machine.execSh base rt offset s
  | .swl base rt offset => Sys2Proof.Machine.execSwl base rt offset s
  | .sw base rt offset => Sys2Proof.Machine.execSw base rt offset s
  | .sdl base rt offset => Sys2Proof.Machine.execSdl base rt offset s
  | .sdr base rt offset => Sys2Proof.Machine.execSdr base rt offset s
  | .swr base rt offset => Sys2Proof.Machine.execSwr base rt offset s
  | .ldl base rt offset => Sys2Proof.Machine.execLdl base rt offset s
  | .ldr base rt offset => Sys2Proof.Machine.execLdr base rt offset s
  | .ll base rt offset => Sys2Proof.Machine.execLl base rt offset s
  | .lld base rt offset => Sys2Proof.Machine.execLld base rt offset s
  | .ld base rt offset => Sys2Proof.Machine.execLd base rt offset s
  | .sc base rt offset => Sys2Proof.Machine.execSc base rt offset s
  | .scd base rt offset => Sys2Proof.Machine.execScd base rt offset s
  | .sd base rt offset => Sys2Proof.Machine.execSd base rt offset s
  | .cache base op offset => Sys2Proof.Machine.execCache base op offset s
  | .pref base hint offset => Sys2Proof.Machine.execPref base hint offset s
  | .lwc1 base ft offset => Sys2Proof.Machine.execLwc1 base ft offset s
  | .ldc1 base ft offset => Sys2Proof.Machine.execLdc1 base ft offset s
  | .swc1 base ft offset => Sys2Proof.Machine.execSwc1 base ft offset s
  | .sdc1 base ft offset => Sys2Proof.Machine.execSdc1 base ft offset s
  | .beq rs rt offset => Sys2Proof.Machine.execBeq rs rt offset s
  | .bne rs rt offset => Sys2Proof.Machine.execBne rs rt offset s
  | .beql rs rt offset => Sys2Proof.Machine.execBeql rs rt offset s
  | .bnel rs rt offset => Sys2Proof.Machine.execBnel rs rt offset s
  | .blez rs offset => Sys2Proof.Machine.execBlez rs offset s
  | .bgtz rs offset => Sys2Proof.Machine.execBgtz rs offset s
  | .blezl rs offset => Sys2Proof.Machine.execBlezl rs offset s
  | .bgtzl rs offset => Sys2Proof.Machine.execBgtzl rs offset s
  | .bltz rs offset => Sys2Proof.Machine.execBltz rs offset s
  | .bgez rs offset => Sys2Proof.Machine.execBgez rs offset s
  | .bltzl rs offset => Sys2Proof.Machine.execBltzl rs offset s
  | .bgezl rs offset => Sys2Proof.Machine.execBgezl rs offset s
  | .bltzal rs offset => Sys2Proof.Machine.execBltzal rs offset s
  | .bgezal rs offset => Sys2Proof.Machine.execBgezal rs offset s
  | .bltzall rs offset => Sys2Proof.Machine.execBltzall rs offset s
  | .bgezall rs offset => Sys2Proof.Machine.execBgezall rs offset s
  | .tgei rs imm => Sys2Proof.Machine.execTgei rs imm s
  | .tgeiu rs imm => Sys2Proof.Machine.execTgeiu rs imm s
  | .tlti rs imm => Sys2Proof.Machine.execTlti rs imm s
  | .tltiu rs imm => Sys2Proof.Machine.execTltiu rs imm s
  | .teqi rs imm => Sys2Proof.Machine.execTeqi rs imm s
  | .tnei rs imm => Sys2Proof.Machine.execTnei rs imm s
  | .j target => Sys2Proof.Machine.execJ target s
  | .jal target => Sys2Proof.Machine.execJal target s
  | .add rs rt rd => Sys2Proof.Machine.execAdd rs rt rd s
  | .addu rs rt rd => Sys2Proof.Machine.execAddu rs rt rd s
  | .sub rs rt rd => Sys2Proof.Machine.execSub rs rt rd s
  | .subu rs rt rd => Sys2Proof.Machine.execSubu rs rt rd s
  | .and rs rt rd => Sys2Proof.Machine.execAnd rs rt rd s
  | .or rs rt rd => Sys2Proof.Machine.execOr rs rt rd s
  | .xor rs rt rd => Sys2Proof.Machine.execXor rs rt rd s
  | .nor rs rt rd => Sys2Proof.Machine.execNor rs rt rd s
  | .slt rs rt rd => Sys2Proof.Machine.execSlt rs rt rd s
  | .sltu rs rt rd => Sys2Proof.Machine.execSltu rs rt rd s
  | .dadd rs rt rd => Sys2Proof.Machine.execDadd rs rt rd s
  | .daddu rs rt rd => Sys2Proof.Machine.execDaddu rs rt rd s
  | .dsub rs rt rd => Sys2Proof.Machine.execDsub rs rt rd s
  | .dsubu rs rt rd => Sys2Proof.Machine.execDsubu rs rt rd s
  | .movz rs rt rd => Sys2Proof.Machine.execMovz rs rt rd s
  | .movn rs rt rd => Sys2Proof.Machine.execMovn rs rt rd s
  | .sllv rs rt rd => Sys2Proof.Machine.execSllv rs rt rd s
  | .srav rs rt rd => Sys2Proof.Machine.execSrav rs rt rd s
  | .dsllv rs rt rd => Sys2Proof.Machine.execDsllv rs rt rd s
  | .dsrav rs rt rd => Sys2Proof.Machine.execDsrav rs rt rd s
  | .srlv rs rt rd => Sys2Proof.Machine.execSrlv rs rt rd s
  | .rorv rs rt rd => Sys2Proof.Machine.execRorv rs rt rd s
  | .dsrlv rs rt rd => Sys2Proof.Machine.execDsrlv rs rt rd s
  | .drorv rs rt rd => Sys2Proof.Machine.execDrorv rs rt rd s
  | .ssnop => Sys2Proof.Machine.execSsnop s
  | .sll rt rd sa => Sys2Proof.Machine.execSll rt rd sa s
  | .sra rt rd sa => Sys2Proof.Machine.execSra rt rd sa s
  | .dsll rt rd sa => Sys2Proof.Machine.execDsll rt rd sa s
  | .dsra rt rd sa => Sys2Proof.Machine.execDsra rt rd sa s
  | .dsll32 rt rd sa => Sys2Proof.Machine.execDsll32 rt rd sa s
  | .dsra32 rt rd sa => Sys2Proof.Machine.execDsra32 rt rd sa s
  | .srl rt rd sa => Sys2Proof.Machine.execSrl rt rd sa s
  | .ror rt rd sa => Sys2Proof.Machine.execRor rt rd sa s
  | .dsrl rt rd sa => Sys2Proof.Machine.execDsrl rt rd sa s
  | .dror rt rd sa => Sys2Proof.Machine.execDror rt rd sa s
  | .dsrl32 rt rd sa => Sys2Proof.Machine.execDsrl32 rt rd sa s
  | .dror32 rt rd sa => Sys2Proof.Machine.execDror32 rt rd sa s
  | .movf rs cc rd => Sys2Proof.Machine.execMovf rs cc rd s
  | .movt rs cc rd => Sys2Proof.Machine.execMovt rs cc rd s
  | .jr rs => Sys2Proof.Machine.execJr rs s
  | .jalr rs rd => Sys2Proof.Machine.execJalr rs rd s
  | .syscall code => Sys2Proof.Machine.execSyscall code s
  | .breakpoint code => Sys2Proof.Machine.execBreakpoint code s
  | .sync stype => Sys2Proof.Machine.execSync stype s
  | .mfhi rd => Sys2Proof.Machine.execMfhi rd s
  | .mthi rs => Sys2Proof.Machine.execMthi rs s
  | .mflo rd => Sys2Proof.Machine.execMflo rd s
  | .mtlo rs => Sys2Proof.Machine.execMtlo rs s
  | .mult rs rt => Sys2Proof.Machine.execMult rs rt s
  | .multu rs rt => Sys2Proof.Machine.execMultu rs rt s
  | .div rs rt => Sys2Proof.Machine.execDiv rs rt s
  | .divu rs rt => Sys2Proof.Machine.execDivu rs rt s
  | .dmult rs rt => Sys2Proof.Machine.execDmult rs rt s
  | .dmultu rs rt => Sys2Proof.Machine.execDmultu rs rt s
  | .ddiv rs rt => Sys2Proof.Machine.execDdiv rs rt s
  | .ddivu rs rt => Sys2Proof.Machine.execDdivu rs rt s
  | .mul rs rt rd => Sys2Proof.Machine.execMul rs rt rd s
  | .mulu rs rt rd => Sys2Proof.Machine.execMulu rs rt rd s
  | .muls rs rt rd => Sys2Proof.Machine.execMuls rs rt rd s
  | .mulsu rs rt rd => Sys2Proof.Machine.execMulsu rs rt rd s
  | .macc rs rt rd => Sys2Proof.Machine.execMacc rs rt rd s
  | .maccu rs rt rd => Sys2Proof.Machine.execMaccu rs rt rd s
  | .msac rs rt rd => Sys2Proof.Machine.execMsac rs rt rd s
  | .msacu rs rt rd => Sys2Proof.Machine.execMsacu rs rt rd s
  | .mulhi rs rt rd => Sys2Proof.Machine.execMulhi rs rt rd s
  | .mulhiu rs rt rd => Sys2Proof.Machine.execMulhiu rs rt rd s
  | .mulshi rs rt rd => Sys2Proof.Machine.execMulshi rs rt rd s
  | .mulshiu rs rt rd => Sys2Proof.Machine.execMulshiu rs rt rd s
  | .macchi rs rt rd => Sys2Proof.Machine.execMacchi rs rt rd s
  | .macchiu rs rt rd => Sys2Proof.Machine.execMacchiu rs rt rd s
  | .msachi rs rt rd => Sys2Proof.Machine.execMsachi rs rt rd s
  | .msachiu rs rt rd => Sys2Proof.Machine.execMsachiu rs rt rd s
  | .tge rs rt code => Sys2Proof.Machine.execTge rs rt code s
  | .tgeu rs rt code => Sys2Proof.Machine.execTgeu rs rt code s
  | .tlt rs rt code => Sys2Proof.Machine.execTlt rs rt code s
  | .tltu rs rt code => Sys2Proof.Machine.execTltu rs rt code s
  | .teq rs rt code => Sys2Proof.Machine.execTeq rs rt code s
  | .tne rs rt code => Sys2Proof.Machine.execTne rs rt code s
  | .madd rs rt => Sys2Proof.Machine.execMadd rs rt s
  | .maddu rs rt => Sys2Proof.Machine.execMaddu rs rt s
  | .msub rs rt => Sys2Proof.Machine.execMsub rs rt s
  | .msubu rs rt => Sys2Proof.Machine.execMsubu rs rt s
  | .mul64 rs rt rd => Sys2Proof.Machine.execMul64 rs rt rd s
  | .clz rs rd => Sys2Proof.Machine.execClz rs rd s
  | .clo rs rd => Sys2Proof.Machine.execClo rs rd s
  | .dclz rs rd => Sys2Proof.Machine.execDclz rs rd s
  | .dclo rs rd => Sys2Proof.Machine.execDclo rs rd s
  | .mfpc rt reg => Sys2Proof.Machine.execMfpc rt reg s
  | .mfps rt reg => Sys2Proof.Machine.execMfps rt reg s
  | .mtpc rt reg => Sys2Proof.Machine.execMtpc rt reg s
  | .mtps rt reg => Sys2Proof.Machine.execMtps rt reg s
  | .mfc0 rt rd => Sys2Proof.Machine.execMfc0 rt rd s
  | .dmfc0 rt rd => Sys2Proof.Machine.execDmfc0 rt rd s
  | .mtc0 rt rd => Sys2Proof.Machine.execMtc0 rt rd s
  | .dmtc0 rt rd => Sys2Proof.Machine.execDmtc0 rt rd s
  | .bc0f offset => Sys2Proof.Machine.execBc0f offset s
  | .bc0t offset => Sys2Proof.Machine.execBc0t offset s
  | .bc0fl offset => Sys2Proof.Machine.execBc0fl offset s
  | .bc0tl offset => Sys2Proof.Machine.execBc0tl offset s
  | .tlbr => Sys2Proof.Machine.execTlbr s
  | .tlbwi => Sys2Proof.Machine.execTlbwi s
  | .tlbwr => Sys2Proof.Machine.execTlbwr s
  | .tlbp => Sys2Proof.Machine.execTlbp s
  | .eret => Sys2Proof.Machine.execEret s
  | .wait code => Sys2Proof.Machine.execWait code s
  | .mfc1 rt fs => Sys2Proof.Machine.execMfc1 rt fs s
  | .dmfc1 rt fs => Sys2Proof.Machine.execDmfc1 rt fs s
  | .cfc1 rt fs => Sys2Proof.Machine.execCfc1 rt fs s
  | .mtc1 rt fs => Sys2Proof.Machine.execMtc1 rt fs s
  | .dmtc1 rt fs => Sys2Proof.Machine.execDmtc1 rt fs s
  | .ctc1 rt fs => Sys2Proof.Machine.execCtc1 rt fs s
  | .bc1f cc offset => Sys2Proof.Machine.execBc1f cc offset s
  | .bc1t cc offset => Sys2Proof.Machine.execBc1t cc offset s
  | .bc1fl cc offset => Sys2Proof.Machine.execBc1fl cc offset s
  | .bc1tl cc offset => Sys2Proof.Machine.execBc1tl cc offset s
  | .fpAddS ft fs fd => Sys2Proof.Machine.execFpAddS ft fs fd s
  | .fpAddD ft fs fd => Sys2Proof.Machine.execFpAddD ft fs fd s
  | .fpSubS ft fs fd => Sys2Proof.Machine.execFpSubS ft fs fd s
  | .fpSubD ft fs fd => Sys2Proof.Machine.execFpSubD ft fs fd s
  | .fpMulS ft fs fd => Sys2Proof.Machine.execFpMulS ft fs fd s
  | .fpMulD ft fs fd => Sys2Proof.Machine.execFpMulD ft fs fd s
  | .fpDivS ft fs fd => Sys2Proof.Machine.execFpDivS ft fs fd s
  | .fpDivD ft fs fd => Sys2Proof.Machine.execFpDivD ft fs fd s
  | .fpSqrtS fs fd => Sys2Proof.Machine.execFpSqrtS fs fd s
  | .fpSqrtD fs fd => Sys2Proof.Machine.execFpSqrtD fs fd s
  | .fpAbsS fs fd => Sys2Proof.Machine.execFpAbsS fs fd s
  | .fpAbsD fs fd => Sys2Proof.Machine.execFpAbsD fs fd s
  | .fpMovS fs fd => Sys2Proof.Machine.execFpMovS fs fd s
  | .fpMovD fs fd => Sys2Proof.Machine.execFpMovD fs fd s
  | .fpNegS fs fd => Sys2Proof.Machine.execFpNegS fs fd s
  | .fpNegD fs fd => Sys2Proof.Machine.execFpNegD fs fd s
  | .fpRoundLS fs fd => Sys2Proof.Machine.execFpRoundLS fs fd s
  | .fpRoundLD fs fd => Sys2Proof.Machine.execFpRoundLD fs fd s
  | .fpTruncLS fs fd => Sys2Proof.Machine.execFpTruncLS fs fd s
  | .fpTruncLD fs fd => Sys2Proof.Machine.execFpTruncLD fs fd s
  | .fpCeilLS fs fd => Sys2Proof.Machine.execFpCeilLS fs fd s
  | .fpCeilLD fs fd => Sys2Proof.Machine.execFpCeilLD fs fd s
  | .fpFloorLS fs fd => Sys2Proof.Machine.execFpFloorLS fs fd s
  | .fpFloorLD fs fd => Sys2Proof.Machine.execFpFloorLD fs fd s
  | .fpRoundWS fs fd => Sys2Proof.Machine.execFpRoundWS fs fd s
  | .fpRoundWD fs fd => Sys2Proof.Machine.execFpRoundWD fs fd s
  | .fpTruncWS fs fd => Sys2Proof.Machine.execFpTruncWS fs fd s
  | .fpTruncWD fs fd => Sys2Proof.Machine.execFpTruncWD fs fd s
  | .fpCeilWS fs fd => Sys2Proof.Machine.execFpCeilWS fs fd s
  | .fpCeilWD fs fd => Sys2Proof.Machine.execFpCeilWD fs fd s
  | .fpFloorWS fs fd => Sys2Proof.Machine.execFpFloorWS fs fd s
  | .fpFloorWD fs fd => Sys2Proof.Machine.execFpFloorWD fs fd s
  | .fpRecipS fs fd => Sys2Proof.Machine.execFpRecipS fs fd s
  | .fpRecipD fs fd => Sys2Proof.Machine.execFpRecipD fs fd s
  | .fpRsqrtS fs fd => Sys2Proof.Machine.execFpRsqrtS fs fd s
  | .fpRsqrtD fs fd => Sys2Proof.Machine.execFpRsqrtD fs fd s
  | .fpCvtWS fs fd => Sys2Proof.Machine.execFpCvtWS fs fd s
  | .fpCvtWD fs fd => Sys2Proof.Machine.execFpCvtWD fs fd s
  | .fpCvtLS fs fd => Sys2Proof.Machine.execFpCvtLS fs fd s
  | .fpCvtLD fs fd => Sys2Proof.Machine.execFpCvtLD fs fd s
  | .fpCvtSD fs fd => Sys2Proof.Machine.execFpCvtSD fs fd s
  | .fpCvtSW fs fd => Sys2Proof.Machine.execFpCvtSW fs fd s
  | .fpCvtSL fs fd => Sys2Proof.Machine.execFpCvtSL fs fd s
  | .fpCvtDS fs fd => Sys2Proof.Machine.execFpCvtDS fs fd s
  | .fpCvtDW fs fd => Sys2Proof.Machine.execFpCvtDW fs fd s
  | .fpCvtDL fs fd => Sys2Proof.Machine.execFpCvtDL fs fd s
  | .fpMovfS cc fs fd => Sys2Proof.Machine.execFpMovfS cc fs fd s
  | .fpMovfD cc fs fd => Sys2Proof.Machine.execFpMovfD cc fs fd s
  | .fpMovtS cc fs fd => Sys2Proof.Machine.execFpMovtS cc fs fd s
  | .fpMovtD cc fs fd => Sys2Proof.Machine.execFpMovtD cc fs fd s
  | .fpMovzS rt fs fd => Sys2Proof.Machine.execFpMovzS rt fs fd s
  | .fpMovzD rt fs fd => Sys2Proof.Machine.execFpMovzD rt fs fd s
  | .fpMovnS rt fs fd => Sys2Proof.Machine.execFpMovnS rt fs fd s
  | .fpMovnD rt fs fd => Sys2Proof.Machine.execFpMovnD rt fs fd s
  | .fpCFS ft fs cc => Sys2Proof.Machine.execFpCFS ft fs cc s
  | .fpCFD ft fs cc => Sys2Proof.Machine.execFpCFD ft fs cc s
  | .fpCUnS ft fs cc => Sys2Proof.Machine.execFpCUnS ft fs cc s
  | .fpCUnD ft fs cc => Sys2Proof.Machine.execFpCUnD ft fs cc s
  | .fpCEqS ft fs cc => Sys2Proof.Machine.execFpCEqS ft fs cc s
  | .fpCEqD ft fs cc => Sys2Proof.Machine.execFpCEqD ft fs cc s
  | .fpCUeqS ft fs cc => Sys2Proof.Machine.execFpCUeqS ft fs cc s
  | .fpCUeqD ft fs cc => Sys2Proof.Machine.execFpCUeqD ft fs cc s
  | .fpCOltS ft fs cc => Sys2Proof.Machine.execFpCOltS ft fs cc s
  | .fpCOltD ft fs cc => Sys2Proof.Machine.execFpCOltD ft fs cc s
  | .fpCUltS ft fs cc => Sys2Proof.Machine.execFpCUltS ft fs cc s
  | .fpCUltD ft fs cc => Sys2Proof.Machine.execFpCUltD ft fs cc s
  | .fpCOleS ft fs cc => Sys2Proof.Machine.execFpCOleS ft fs cc s
  | .fpCOleD ft fs cc => Sys2Proof.Machine.execFpCOleD ft fs cc s
  | .fpCUleS ft fs cc => Sys2Proof.Machine.execFpCUleS ft fs cc s
  | .fpCUleD ft fs cc => Sys2Proof.Machine.execFpCUleD ft fs cc s
  | .fpCSfS ft fs cc => Sys2Proof.Machine.execFpCSfS ft fs cc s
  | .fpCSfD ft fs cc => Sys2Proof.Machine.execFpCSfD ft fs cc s
  | .fpCNgleS ft fs cc => Sys2Proof.Machine.execFpCNgleS ft fs cc s
  | .fpCNgleD ft fs cc => Sys2Proof.Machine.execFpCNgleD ft fs cc s
  | .fpCSeqS ft fs cc => Sys2Proof.Machine.execFpCSeqS ft fs cc s
  | .fpCSeqD ft fs cc => Sys2Proof.Machine.execFpCSeqD ft fs cc s
  | .fpCNglS ft fs cc => Sys2Proof.Machine.execFpCNglS ft fs cc s
  | .fpCNglD ft fs cc => Sys2Proof.Machine.execFpCNglD ft fs cc s
  | .fpCLtS ft fs cc => Sys2Proof.Machine.execFpCLtS ft fs cc s
  | .fpCLtD ft fs cc => Sys2Proof.Machine.execFpCLtD ft fs cc s
  | .fpCNgeS ft fs cc => Sys2Proof.Machine.execFpCNgeS ft fs cc s
  | .fpCNgeD ft fs cc => Sys2Proof.Machine.execFpCNgeD ft fs cc s
  | .fpCLeS ft fs cc => Sys2Proof.Machine.execFpCLeS ft fs cc s
  | .fpCLeD ft fs cc => Sys2Proof.Machine.execFpCLeD ft fs cc s
  | .fpCNgtS ft fs cc => Sys2Proof.Machine.execFpCNgtS ft fs cc s
  | .fpCNgtD ft fs cc => Sys2Proof.Machine.execFpCNgtD ft fs cc s
  | .lwxc1 base index fd => Sys2Proof.Machine.execLwxc1 base index fd s
  | .ldxc1 base index fd => Sys2Proof.Machine.execLdxc1 base index fd s
  | .luxc1 base index fd => Sys2Proof.Machine.execLuxc1 base index fd s
  | .swxc1 base index fs => Sys2Proof.Machine.execSwxc1 base index fs s
  | .sdxc1 base index fs => Sys2Proof.Machine.execSdxc1 base index fs s
  | .suxc1 base index fs => Sys2Proof.Machine.execSuxc1 base index fs s
  | .prefx base index hint => Sys2Proof.Machine.execPrefx base index hint s
  | .fpMaddS fr ft fs fd => Sys2Proof.Machine.execFpMaddS fr ft fs fd s
  | .fpMaddD fr ft fs fd => Sys2Proof.Machine.execFpMaddD fr ft fs fd s
  | .fpMsubS fr ft fs fd => Sys2Proof.Machine.execFpMsubS fr ft fs fd s
  | .fpMsubD fr ft fs fd => Sys2Proof.Machine.execFpMsubD fr ft fs fd s
  | .fpNmaddS fr ft fs fd => Sys2Proof.Machine.execFpNmaddS fr ft fs fd s
  | .fpNmaddD fr ft fs fd => Sys2Proof.Machine.execFpNmaddD fr ft fs fd s
  | .fpNmsubS fr ft fs fd => Sys2Proof.Machine.execFpNmsubS fr ft fs fd s
  | .fpNmsubD fr ft fs fd => Sys2Proof.Machine.execFpNmsubD fr ft fs fd s

end Sys2Proof.Machine
end

