-- ==== Sys2Proof/Machine/Events.lean ====
section
/-! DEFINITION. The events of the environment (60_exceptions.md rules R1043, R1044, R1047, R1050, R1051, R1053;
70_reset_and_hazards.md rules R1100 to R1104). A step begins by delivering one batch of them (log 6). -/

namespace Sys2Proof.Machine

/-- The state as a step finds it: the requests of the last batch are over. -/
def State.beginStep (s : State) : State :=
  { s with
    raised := false
    env := s.env.tail
    inputs := { s.inputs with
      busErrFetch := false, busErrData := false, cacheErr := none, softReset := false, coldReset := none } }

/-- A tick of Count (rules R1050, R1051). -/
def State.tick (s : State) : State :=
  { s with
    cp0 := { s.cp0 with count := s.cp0.count + 1 }
    inputs := { s.inputs with timerReq := s.cp0.count + 1 == s.cp0.compare || s.inputs.timerReq } }

/-- The interrupt register after ExternalWrite of rule R1043: bits 22:16 of the data enable bits 6:0. -/
def writeIntReg (intReg : BitVec 7) (data : BitVec 23) : BitVec 7 :=
  (intReg &&& ~~~data.extractLsb' 16 7) ||| (data.extractLsb' 0 7 &&& data.extractLsb' 16 7)

/-- An external write of the interrupt register; a change of bit 6 from 0 to 1 requests an NMI (rules R1043, R1044). -/
def State.externalWrite (s : State) (data : BitVec 23) : State :=
  { s with
    inputs := { s.inputs with
      intReg := writeIntReg s.inputs.intReg data
      nmiPending := s.inputs.nmiPending +
        if !s.inputs.intReg.getLsbD 6 && (writeIntReg s.inputs.intReg data).getLsbD 6 then 1 else 0 } }

/-- Reset# goes active: the processor is held, and a soft reset asked for in the same batch waits for the pin to go
inactive again (70_reset_and_hazards.md rule R1103, log 55). -/
def State.assertReset (s : State) : State :=
  { s with
    runState := .held
    inputs := { s.inputs with resetPin := true, softReset := false } }

/-- Reset# goes inactive. After a cold reset that came while it was active, execution starts; while ColdReset# is active
nothing happens; asserted alone before, it asks for a soft reset (rules R1101, R1103). -/
def State.releaseReset (s : State) : State :=
  { s with
    runState := if s.inputs.coldStart && !s.inputs.coldResetPin then .running else s.runState
    inputs := { s.inputs with
      resetPin := false
      coldStart := false
      softReset := s.inputs.resetPin && !s.inputs.coldStart && !s.inputs.coldResetPin || s.inputs.softReset } }

/-- ColdReset# goes active: the processor is held, and the reset to come is a cold one (rule R1103). -/
def State.assertColdReset (s : State) : State :=
  { s with
    runState := .held
    inputs := { s.inputs with coldResetPin := true, coldStart := false, softReset := false, coldReset := none } }

/-- ColdReset# goes inactive: a cold reset, after which the processor stays held while Reset# is active (rules R1100,
R1103). -/
def State.releaseColdReset (s : State) (pins : Pins) : State :=
  { s with
    inputs :=
      if s.inputs.coldResetPin then
        { s.inputs with coldResetPin := false, coldStart := s.inputs.resetPin, coldReset := some pins }
      else s.inputs }

/-- One event. -/
def State.deliverEvent (s : State) : EnvEvent → State
  | .tick => s.tick
  | .intPins levels => { s with inputs := { s.inputs with intPin := levels } }
  | .nmiEdge => { s with inputs := { s.inputs with nmiPending := s.inputs.nmiPending + 1 } }
  | .externalWrite data => s.externalWrite data
  | .cpCond level => { s with inputs := { s.inputs with cpCond := level } }
  | .busErrorFetch => { s with inputs := { s.inputs with busErrFetch := true } }
  | .busErrorData => { s with inputs := { s.inputs with busErrData := true } }
  | .cacheError bits => { s with inputs := { s.inputs with cacheErr := some bits } }
  | .perfEvent event => s.countEvent event
  | .resetAsserted => s.assertReset
  | .resetDeasserted => s.releaseReset
  | .coldResetAsserted => s.assertColdReset
  | .coldResetDeasserted pins => s.releaseColdReset pins

/-- The state after the batch of this step. -/
def State.deliver (s : State) : State := (s.env.headD []).foldl State.deliverEvent s.beginStep

end Sys2Proof.Machine
end

