-- ==== Sys2Proof/Machine/Fetch.lean ====
section
/-! DEFINITION. The attempt to run one instruction: fetch, decode, performance events, execution
(60_exceptions.md rule R1031); what the words of no instruction raise; and what a step does at an instruction
boundary (rules R1031, R1046). -/

namespace Sys2Proof.Machine

/-! ## Fetch -/

/-- Byte `i` of the instruction at a physical address (20_memory.md rule R112). -/
def State.fetchByte (s : State) (pa : PAddr) (i : Nat) : Byte := s.byteAt (pa.toNat + i)

/-- The instruction word at a physical address, in the machine's byte order (20_memory.md rules R100, R112). -/
def State.fetchWord (s : State) (pa : PAddr) : Word :=
  wordOfBytes s.pins.bigEndian (s.fetchByte pa 0) (s.fetchByte pa 1) (s.fetchByte pa 2) (s.fetchByte pa 3)

/-! ## Performance events of an instruction word (60_exceptions.md rule R1053, log 48) -/

/-- The COP1X words of these functions (30_encoding.md rule R214). -/
def isCop1x (w : Word) (functions : List (BitVec 6)) : Bool := opOf w == 0b010011#6 && functions.contains (fnOf w)

/-- Loads of the FPU. -/
def isFpLoad (w : Word) : Bool :=
  opOf w == 0b110001#6 || opOf w == 0b110101#6 || isCop1x w [0b000000#6, 0b000001#6, 0b000101#6]

/-- Stores of the FPU. -/
def isFpStore (w : Word) : Bool :=
  opOf w == 0b111001#6 || opOf w == 0b111101#6 || isCop1x w [0b001000#6, 0b001001#6, 0b001101#6]

/-- Event 2: loads, prefetches and CACHE. -/
def countsAsLoad (w : Word) : Bool :=
  opOf w &&& 0b111000#6 == 0b100000#6 || opOf w == 0b011010#6 || opOf w == 0b011011#6 || opOf w == 0b110000#6
    || opOf w == 0b110100#6 || opOf w == 0b110111#6 || opOf w == 0b110011#6 || opOf w == 0b101111#6 || isFpLoad w
    || isCop1x w [0b001111#6]

/-- Event 3: stores. -/
def countsAsStore (w : Word) : Bool :=
  (opOf w &&& 0b111000#6 == 0b101000#6 && opOf w != 0b101111#6) || opOf w == 0b111000#6 || opOf w == 0b111100#6
    || opOf w == 0b111111#6 || isFpStore w

/-- The jumps J, JAL, JR and JALR. -/
def isJump (w : Word) : Bool :=
  opOf w == 0b000010#6 || opOf w == 0b000011#6
    || (opOf w == 0b000000#6 && (fnOf w == 0b001000#6 || fnOf w == 0b001001#6))

/-- Event 4: branches; whether jumps count is not stated. -/
def countsAsBranch (w : Word) : Bool :=
  opOf w &&& 0b101100#6 == 0b000100#6 || (opOf w == 0b000001#6 && !w.getLsbD 19)
    || ((opOf w == 0b010000#6 || opOf w == 0b010001#6) && f1Of w == 0b01000#5)
    || (isJump w && Config.perfCountsJumps)

/-- MOV.fmt, MOVF.fmt, MOVT.fmt, MOVZ.fmt and MOVN.fmt, by their function codes. -/
def isFpRegisterMove (w : Word) : Bool :=
  fnOf w == 0b000110#6 || fnOf w == 0b010001#6 || fnOf w == 0b010010#6 || fnOf w == 0b010011#6

/-- Event 5: which opcodes count is not stated. The model counts the arithmetic, conversions and comparisons of the FPU;
whether its loads, stores, moves of every kind and branches count is left to a constant with no body (log 48). DESIGN
CHOICE. -/
def countsAsFp (w : Word) : Bool :=
  (opOf w == 0b010001#6 && w.getLsbD 25 && !isFpRegisterMove w) || (opOf w == 0b010011#6 && w.getLsbD 5)
    || ((isFpLoad w || isFpStore w || opOf w == 0b010001#6 || (opOf w == 0b000000#6 && fnOf w == 0b000001#6))
      && Config.perfCountsFpMove)

/-- The state in which an instruction executes: its events are counted. -/
def State.countKinds (s : State) (w : Word) : State :=
  (((s.countWhen 2 (countsAsLoad w)).countWhen 3 (countsAsStore w)).countWhen 4 (countsAsBranch w)).countWhen 5
    (countsAsFp w)

/-! ## Words of no instruction -/

/-- What a word that the decoder rejects raises (30_encoding.md rules R216, R217, R220; 45_cp0_system.md rules R750,
R751; log 52). -/
def State.reject (s : State) : Reject → Result
  | .reserved => raise .reservedInstruction s
  | .cop0 => needCp0 s <| raise .reservedInstruction s
  | .cop1Unimplemented => needFpu s <| raiseUnimplemented s
  | .cop1LongInvalid => needFpu s <| need64 s <| raiseUnimplemented s
  | .cop2 => if s.status.cu2 then raise .reservedInstruction s else raise (.coprocessorUnusable 2) s

/-! ## One instruction -/

/-- Decode and execute the word at a physical address (steps 3 and 4 of rule R1031). A word that the decoder rejects
counts as event 1 alone, whatever its opcode: which of the events 2 to 5 it is, is not stated (rule R1053, log 48).
DESIGN CHOICE. -/
noncomputable def State.runAt (s : State) (pa : PAddr) : Result :=
  match decodeBytes s.pins.bigEndian (s.fetchByte pa 0) (s.fetchByte pa 1) (s.fetchByte pa 2) (s.fetchByte pa 3) with
  | .ok i => Sys2Proof.Machine.exec i (s.countKinds (s.fetchWord pa))
  | .error r => s.reject r

/-- Steps 2 to 4 of rule R1031 for the instruction at `pc`; every attempt counts as an instruction (rule R1053). -/
noncomputable def State.runInstr (s : State) : Result :=
  let t := s.countEvent 1
  match t.instrAddr with
  | .error e => raise e t
  | .ok (pa, _) => if t.inputs.busErrFetch then raise .busErrorFetch t else t.runAt pa

/-- An enabled interrupt at an instruction boundary (rule R1046): the instruction's own exception is taken before it;
otherwise the instruction is not executed. -/
def State.interruptUnless (s : State) (own : Result) : Result :=
  match own with
  | .next t => if t.raised then .next t else raise .interrupt s
  | _ => raise .interrupt s

/-- The rest of a step when no reset, NMI or cache error is taken (45_cp0_system.md rule R735; rule R1046). -/
noncomputable def State.proceed (s : State) : Result :=
  if s.runState = .standby then if s.intRequest then raise .interrupt s else .next s
  else if s.intRequest then s.interruptUnless s.runInstr
  else s.runInstr

/-- An NMI answers one request; the others stay pending (60_exceptions.md rule R1044). -/
def State.takeNmi (s : State) : State := { s with inputs := { s.inputs with nmiPending := s.inputs.nmiPending - 1 } }.warmEntry

/-- The cache error that is taken: none while Status.DE masks it (rule R1021). -/
def State.pendingCacheError (s : State) : Option (BitVec 7) := if s.status.de then none else s.inputs.cacheErr

/-- A step after its events: the resets and the NMI come first (rule R1031, step 1); a processor that is held in reset
executes nothing (70_reset_and_hazards.md rule R1103). A bus error in such a step has no effect, and one of the next step
is taken as ever, where rule R1103 calls the operation undefined (log 75). DESIGN CHOICE. -/
noncomputable def State.afterEvents (s : State) : Result :=
  match s.inputs.coldReset with
  | some pins => .next (s.coldResetWith pins)
  | none =>
    if s.inputs.softReset then .next s.warmEntry
    else if s.runState = .held then .next s
    else if s.inputs.nmiPending != 0 then .next s.takeNmi
    else
      match s.pendingCacheError with
      | some bits => .next (s.cacheErrorEntry bits)
      | none => s.proceed

/-! ## Placing an instruction -/

/-- Store the four bytes of a word from a physical address on, in the machine's byte order. -/
def State.placeWord (s : State) (pa : PAddr) (w : Word) : State :=
  { s with
    mem := Memory.writeBytes s.mem pa.toNat
      [byteOfWord s.pins.bigEndian w 0, byteOfWord s.pins.bigEndian w 1, byteOfWord s.pins.bigEndian w 2,
        byteOfWord s.pins.bigEndian w 3] }

/-- Store a word where the instruction at `pc` is fetched; nothing where that address has no translation. -/
def State.placeAtPc (s : State) (w : Word) : State :=
  match s.instrAddr with
  | .ok (pa, _) => s.placeWord pa w
  | .error _ => s

end Sys2Proof.Machine
end

