-- ==== Sys2Proof/Machine/Step.lean ====
section
/-! DEFINITION. One step of the machine (60_exceptions.md rules R1031, R1046, R1047), and where its next instruction
is placed. -/

namespace Sys2Proof.Machine

/-- One step: the events of the environment are delivered, then a reset, an NMI, a cache error, an interrupt or one
instruction is taken. It is marked noncomputable because Lean's compiler has no code for an inductive of more than 244
constructors (log 7); Lean's kernel evaluates it. -/
noncomputable def step (s : State) : Host.Outcome State Fault Refusal := s.deliver.afterEvents

/-- `s` with the instruction whose bits are `w` at the address that the next step fetches from (log 7). -/
def State.withFetchWord (s : State) (nbits w : Nat) : State := s.placeAtPc (BitVec.ofNat 32 (w % 2 ^ nbits))

end Sys2Proof.Machine
end

