-- ==== Sys2Proof/Safety.lean ====
section
/-! DEFINITION. The terms in which claims speak of an instruction: what it changes and that it changes nothing else,
when the machine is ready to run one, and the invariant of memory. -/

namespace Sys2Proof.Machine

/-! ## What stays the same -/

/-- Every general register. -/
def SameRegs (s t : State) : Prop := ∀ r, t.reg r = s.reg r

/-- Every general register but one. -/
def SameRegsBut (s t : State) (rd : RegNum) : Prop := ∀ r, r ≠ rd → t.reg r = s.reg r

/-- HI and LO. -/
def SameHiLo (s t : State) : Prop := t.hi = s.hi ∧ t.lo = s.lo

/-- Every floating-point register. -/
def SameFpRegs (s t : State) : Prop := ∀ i, t.fp i = s.fp i

/-- Every floating-point register but one. -/
def SameFpRegsBut (s t : State) (fd : FprNum) : Prop := ∀ i, i ≠ fd → t.fp i = s.fp i

/-- Every byte of memory. -/
def SameMemory (s t : State) : Prop := ∀ a, t.byteAt a = s.byteAt a

/-- Every byte of memory but the `n` bytes from `a` on. -/
def SameMemoryBut (s t : State) (a n : Nat) : Prop := ∀ x, x < a ∨ a + n ≤ x → t.byteAt x = s.byteAt x

/-- The LL bit and the address that SC compares. -/
def SameLink (s t : State) : Prop := t.llBit = s.llBit ∧ t.linkAddr = s.linkAddr

/-- What no instruction writes but those that change the run state or take an exception. -/
structure SameWorld (s t : State) : Prop where
  runState : t.runState = s.runState
  pins : t.pins = s.pins
  inputs : t.inputs = s.inputs
  env : t.env = s.env
  raised : t.raised = s.raised

/-- The registers of CP0, the TLB, the LL bit, the pins and the inputs. -/
structure SameSystem (s t : State) : Prop where
  cp0 : t.cp0 = s.cp0
  tlb : t.tlb = s.tlb
  link : SameLink s t
  world : SameWorld s t

/-- Where execution continues: the program counter, the one after it, and whether a delay slot is next
(43_branch_jump.md rule R600). -/
def ContinuesAt (t : State) (pc npc : Dword) (inDelay : Bool) : Prop := t.pc = pc ∧ t.npc = npc ∧ t.inDelay = inDelay

/-- The next instruction in sequence follows (43_branch_jump.md rule R600). -/
def Advanced (s t : State) : Prop := ContinuesAt t s.npc (s.npc + 4) false

/-! ## What an instruction writes -/

/-- One general register receives a value and nothing else changes; a write to r0 is discarded (10_state.md rule R1). -/
structure GprEffect (s t : State) (rd : RegNum) (v : Dword) : Prop where
  value : t.reg rd = if rd = 0 then 0 else v
  regs : SameRegsBut s t rd
  hiLo : SameHiLo s t
  fpRegs : SameFpRegs s t
  fcr31 : t.fcr31 = s.fcr31
  system : SameSystem s t
  memory : SameMemory s t

/-- HI, LO and one general register are written, and nothing else. -/
structure HiLoEffect (s t : State) (hi lo : Dword) (rd : RegNum) (v : Dword) : Prop where
  hi : t.hi = hi
  lo : t.lo = lo
  value : t.reg rd = if rd = 0 then 0 else v
  regs : SameRegsBut s t rd
  fpRegs : SameFpRegs s t
  fcr31 : t.fcr31 = s.fcr31
  system : SameSystem s t
  memory : SameMemory s t

/-- Byte `i` of the `n` bytes that a store of `v` writes (20_memory.md rule R101; 40_load_store.md rule R304). -/
def storedByte (bigEndian : Bool) (n : Nat) (v : Dword) (i : Nat) : Byte :=
  (v >>> (8 * (if bigEndian then n - 1 - i else i))).setWidth 8

/-- The `n` bytes from `a` on receive `v`, one general register may be written, and nothing else changes. -/
structure StoreEffect (s t : State) (a n : Nat) (v : Dword) (rd : RegNum) (r : Dword) : Prop where
  bytes : ∀ i, i < n → t.byteAt (a + i) = storedByte s.pins.bigEndian n v i
  memory : SameMemoryBut s t a n
  value : t.reg rd = if rd = 0 then 0 else r
  regs : SameRegsBut s t rd
  hiLo : SameHiLo s t
  fpRegs : SameFpRegs s t
  fcr31 : t.fcr31 = s.fcr31
  system : SameSystem s t

/-- The registers of CP0 become `c`, and nothing else changes. -/
structure Cp0Effect (s t : State) (c : Cp0) : Prop where
  cp0 : t.cp0 = c
  tlb : t.tlb = s.tlb
  link : SameLink s t
  world : SameWorld s t
  regs : SameRegs s t
  hiLo : SameHiLo s t
  fpRegs : SameFpRegs s t
  fcr31 : t.fcr31 = s.fcr31
  memory : SameMemory s t

/-- One entry of the TLB becomes `e`, the registers of CP0 become `c`, and nothing else changes. -/
structure TlbEffect (s t : State) (k : Nat) (e : TlbEntry) (c : Cp0) : Prop where
  entry : t.tlb[k]? = some e
  others : ∀ j, j ≠ k → t.tlb[j]? = s.tlb[j]?
  cp0 : t.cp0 = c
  link : SameLink s t
  world : SameWorld s t
  regs : SameRegs s t
  hiLo : SameHiLo s t
  fpRegs : SameFpRegs s t
  fcr31 : t.fcr31 = s.fcr31
  memory : SameMemory s t

/-- The bits of a CP0 register that a software write stores (45_cp0_system.md rule R710; the layouts are 10_state.md
rules R11 to R34). -/
def cp0WriteMask (rd : RegNum) : Dword :=
  if rd = 0 then 0x8000003F
  else if rd = 2 || rd = 3 then 0x3FFFFFFF
  else if rd = 4 then 0xFFFFFFFFFF800000
  else if rd = 5 then 0x7FFFE000
  else if rd = 6 then 0x3F
  else if rd = 10 then 0xC00000FFFFFFE0FF
  else if rd = 12 then 0xF577FFFF
  else if rd = 13 then 0x300
  else if rd = 16 then 0x0FC00007
  else if rd = 18 then 0xFFFFFFFB
  else if rd = 19 then 0xF
  else if rd = 20 then 0xFFFFFFFE00000000
  else if rd = 25 then 0x1FF
  else if rd = 26 then 0xFF
  else if rd = 9 || rd = 11 || rd = 17 || rd = 28 || rd = 29 then 0xFFFFFFFF
  else if rd = 14 || rd = 30 then 0xFFFFFFFFFFFFFFFF
  else 0

/-- A software write of a CP0 register: the bits of its mask receive those of `v`; a write of Wired also sets Random to
47, one of Compare clears the timer request; nothing else changes (45_cp0_system.md rule R710). -/
structure Cp0WriteEffect (s t : State) (rd : RegNum) (v : Dword) : Prop where
  written : t.readCp0 rd = (s.readCp0 rd &&& ~~~cp0WriteMask rd) ||| (v &&& cp0WriteMask rd)
  random : t.readCp0 1 = if rd = 6 then 47 else s.readCp0 1
  others : ∀ q, q ≠ rd → (rd = 6 → q ≠ 1) → (rd = 11 → q ≠ 13) → t.readCp0 q = s.readCp0 q
  timer : t.inputs = if rd = 11 then { s.inputs with timerReq := false } else s.inputs
  perf : t.cp0.perfCounter0 = s.cp0.perfCounter0 ∧ t.cp0.perfCounter1 = s.cp0.perfCounter1
    ∧ t.cp0.perfControl1 = s.cp0.perfControl1
  cause : rd ≠ 13 → t.cp0.cause = s.cp0.cause
  tlb : t.tlb = s.tlb
  link : SameLink s t
  outside : t.runState = s.runState ∧ t.pins = s.pins ∧ t.env = s.env ∧ t.raised = s.raised
  regs : SameRegs s t
  hiLo : SameHiLo s t
  fpRegs : SameFpRegs s t
  fcr31 : t.fcr31 = s.fcr31
  memory : SameMemory s t

/-- One floating-point register and FCR31 are written, and nothing else. -/
structure FpEffect (s t : State) (fd : FprNum) (f : Fcr31) : Prop where
  fcr31 : t.fcr31 = f
  fpRegs : SameFpRegsBut s t fd
  regs : SameRegs s t
  hiLo : SameHiLo s t
  system : SameSystem s t
  memory : SameMemory s t

/-! ## Completion -/

/-- The instruction answers a next state in which `rd` holds `v`, the next instruction in sequence follows, and nothing
else has changed. -/
def Computes (i : Instr) (s : State) (rd : RegNum) (v : Dword) : Prop :=
  ∃ t, exec i s = .next t ∧ Advanced s t ∧ GprEffect s t rd v

/-- The instruction answers a next state that differs only in where execution continues. -/
def DoesNothing (i : Instr) (s : State) : Prop := Computes i s 0 0

/-- The instruction answers a next state in which HI, LO and `rd` hold these values. -/
def ComputesHiLo (i : Instr) (s : State) (hi lo : Dword) (rd : RegNum) (v : Dword) : Prop :=
  ∃ t, exec i s = .next t ∧ Advanced s t ∧ HiLoEffect s t hi lo rd v

/-- The instruction answers a next state in which the `n` bytes from `a` on hold `v`. -/
def Stores (i : Instr) (s : State) (a : PAddr) (n : Nat) (v : Dword) : Prop :=
  ∃ t, exec i s = .next t ∧ Advanced s t ∧ StoreEffect s t a.toNat n v 0 0

/-- The target of a conditional branch (43_branch_jump.md rule R602). -/
def branchTo (s : State) (offset : BitVec 16) : Dword := s.pc + 4 + (offset ++ 0#2).signExtend 64

/-- A branch: taken with its delay slot; not taken, with its delay slot or, for a likely branch, past it; `link` receives
the address after the delay slot (43_branch_jump.md rules R601, R603, R604). -/
def Branches (i : Instr) (s : State) (taken likely : Bool) (offset : BitVec 16) (link : RegNum) : Prop :=
  ∃ t, exec i s = .next t ∧ GprEffect s t link (s.pc + 8) ∧
    (if taken then ContinuesAt t s.npc (branchTo s offset) true
     else if likely then ContinuesAt t (s.npc + 4) (s.npc + 8) false
     else ContinuesAt t s.npc (s.npc + 4) true)

/-- A jump with its delay slot. -/
def Jumps (i : Instr) (s : State) (target : Dword) (link : RegNum) (v : Dword) : Prop :=
  ∃ t, exec i s = .next t ∧ GprEffect s t link v ∧ ContinuesAt t s.npc target true

/-- The instruction takes an exception. -/
def Raises (i : Instr) (s : State) (e : Exc) : Prop := exec i s = .next (takeException e s)

/-- The instruction answers a next state in which the registers of CP0 are `c`. -/
def SetsCp0 (i : Instr) (s : State) (c : Cp0) : Prop := ∃ t, exec i s = .next t ∧ Advanced s t ∧ Cp0Effect s t c

/-! ## Values -/

/-- An integer that 32 bits hold (41_alu.md rule R402). -/
def InWord (x : Int) : Prop := -2 ^ 31 ≤ x ∧ x < 2 ^ 31

/-- An integer that 64 bits hold (41_alu.md rule R402). -/
def InDword (x : Int) : Prop := -2 ^ 63 ≤ x ∧ x < 2 ^ 63

/-- The result of a 32-bit operation on two registers: its word sign-extended, or a free value when a register holds no
sign-extended word (41_alu.md rules R400, R401; log 18). -/
def wordValue (s : State) (a b : RegNum) (w : Word) : Dword :=
  if isSext (s.reg a) && isSext (s.reg b) then sext w else s.free 0

/-- A data access that raises nothing (40_load_store.md rule R301). -/
def Accessible (s : State) (va : Dword) (n : Nat) (store : Bool) (pa : PAddr) (attr : CacheAttr) : Prop :=
  s.dataAddr va n store = .ok (pa, attr) ∧ s.accessFault pa attr store = none

/-- The instruction takes the exception of the address, or else the one of the access (40_load_store.md rule R301). -/
def TakesAccessException (i : Instr) (s : State) (va : Dword) (n : Nat) (store : Bool) : Prop :=
  ∀ e, (s.dataAddr va n store = .error e ∨
    ∃ pa attr, s.dataAddr va n store = .ok (pa, attr) ∧ s.accessFault pa attr store = some e) → Raises i s e

/-! ## Floating point -/

/-- The number `(-1)^neg * m * 2^e`. -/
def ratOf (neg : Bool) (m : Nat) (e : Int) : Rat := (if neg then -1 else 1) * m * 2 ^ e

/-- The number that a finite operand stands for (47_fpu_arith.md rule R859). -/
def fpValue : Fp → Option Rat
  | .finite neg m e => some (ratOf neg m e)
  | .denormal neg m e => some (ratOf neg m e)
  | _ => none

/-- The trap decision of FPFinish (47_fpu_arith.md rule R850). -/
def fpTraps (f : Fcr31) (c : BitVec 6) : Bool := c.getLsbD 5 || c.setWidth 5 &&& f.enables != 0

/-- FCR31 after a computation that does not trap (47_fpu_arith.md rules R851, R853). -/
def fcrAfter (f : Fcr31) (c : BitVec 6) : Fcr31 := { f with cause := c, flags := f.flags ||| c.setWidth 5 }

/-- What a floating-point register holds in a format (10_state.md rule R52). -/
def fpHolds (t : State) (fmt : FpFormat) (fd : FprNum) (v : Dword) : Prop :=
  match fmt with
  | .single => (t.fp fd).lo = low v
  | .double => (t.fp fd).toDword = v

/-- The instruction ends in FPFinish with this cause and value (47_fpu_arith.md rule R850): it completes when nothing
traps, and else takes the floating-point exception with only the cause bits written. -/
def Finishes (i : Instr) (s : State) (fmt : FpFormat) (fd : FprNum) (r : FpResult) : Prop :=
  (fpTraps s.fcr31 r.cause = false →
    ∃ t, exec i s = .next t ∧ Advanced s t ∧ FpEffect s t fd (fcrAfter s.fcr31 r.cause) ∧ fpHolds t fmt fd r.value) ∧
  (fpTraps s.fcr31 r.cause = true →
    exec i s = .next (takeException .floatingPoint (s.setFcr31 { s.fcr31 with cause := r.cause })))

/-- Coprocessor 1 is usable, and every register of the list is even where Status.FR = 0 (47_fpu_arith.md rule R861). -/
def FpReady (s : State) (regs : List FprNum) : Prop := s.status.cu1 = true ∧ regs.any s.oddFp = false

/-- The instruction answers a next state in which one floating-point register is as `p` says and nothing else has
changed. -/
def FpWrites (i : Instr) (s : State) (fd : FprNum) (p : FpReg → Prop) : Prop :=
  ∃ t, exec i s = .next t ∧ Advanced s t ∧ FpEffect s t fd s.fcr31 ∧ p (t.fp fd)

/-- FCR31 becomes `f`, and nothing else changes. -/
structure Fcr31Effect (s t : State) (f : Fcr31) : Prop where
  fcr31 : t.fcr31 = f
  fpRegs : SameFpRegs s t
  regs : SameRegs s t
  hiLo : SameHiLo s t
  system : SameSystem s t
  memory : SameMemory s t

/-- The instruction answers a next state in which FCR31 is `f` and nothing else has changed. -/
def SetsFcr31 (i : Instr) (s : State) (f : Fcr31) : Prop :=
  ∃ t, exec i s = .next t ∧ Advanced s t ∧ Fcr31Effect s t f

/-! ## Steps -/

/-- Memory is in its canonical form. -/
def State.Canonical (s : State) : Prop := Memory.wf s.mem = true

/-- Nothing but the instruction at `pc` is to run: no reset, NMI, cache error or enabled interrupt is pending and the
processor is running (60_exceptions.md rule R1031). -/
def State.Ready (s : State) : Prop :=
  s.inputs.coldReset = none ∧ s.inputs.softReset = false ∧ s.runState = .running ∧ s.inputs.nmiPending = 0
    ∧ s.pendingCacheError = none ∧ s.intRequest = false

/-- The state has changed in nothing but the performance counters and their request. -/
def SameButCounters (s t : State) : Prop :=
  ∃ c0 c1 req, t = { s with
    cp0 := { s.cp0 with perfCounter0 := c0, perfCounter1 := c1 }, inputs := { s.inputs with timerReq := req } }

end Sys2Proof.Machine
end

