-- ==== Sys2Proof/Certificates/Slice0/Obligations.lean ====
section
/-! DEFINITION. The obligations of the model: one definition for each statement of OBLIGATIONS.json. -/

open Sys2Proof Sys2Proof.Machine

/-- A ready step runs the instruction that the bytes at the program counter decode to, or takes an exception
(60_exceptions.md R1031; 60_exceptions.md R1046; 60_exceptions.md R1053; 20_memory.md R112; 20_memory.md R161;
30_encoding.md R207 to R209; 30_encoding.md R212 to R214; 30_encoding.md R216; 30_encoding.md R217;
30_encoding.md R220; 45_cp0_system.md R750; 45_cp0_system.md R751). Which instructions an event counts, where
the spec does not say, and that a word of no instruction is event 1 alone, are the model's choice (log 48);
which modes a control register selects is the layout of item G6 (log 49). The order of the checks of a COP0 word
is the spec's decision D39, COP2 with CU2 = 1 its decision D38 (log 65); MULT and MULTU words with other bits
10:6 are reserved by its D45. -/
def Obligations.StepRunsDecodedInstruction : Prop :=
  (∀ s : State, s.deliver.Ready → let u := s.deliver.countEvent 1; let st := s.deliver.status
    let unimplemented := takeException .floatingPoint (u.setFcr31 { u.fcr31 with cause := 0b100000 })
    (∀ e, s.deliver.instrAddr = .error e → step s = .next (takeException e u)) ∧
    (∀ (pa : PAddr) (attr : CacheAttr), s.deliver.instrAddr = .ok (pa, attr) →
      (s.deliver.inputs.busErrFetch = true → step s = .next (takeException .busErrorFetch u)) ∧
      (s.deliver.inputs.busErrFetch = false →
        let read := decodeBytes s.deliver.pins.bigEndian (s.deliver.byteAt pa.toNat) (s.deliver.byteAt (pa.toNat + 1))
          (s.deliver.byteAt (pa.toNat + 2)) (s.deliver.byteAt (pa.toNat + 3))
        (∀ i, read = .ok i →
          ∃ t, SameButCounters s.deliver t ∧ t = u.countKinds (s.deliver.fetchWord pa) ∧ step s = exec i t) ∧
        (∀ r, read = .error r → step s = .next (match r with
          | .reserved => takeException .reservedInstruction u
          | .cop0 => takeException (if st.cp0Usable then .reservedInstruction else .coprocessorUnusable 0) u
          | .cop1Unimplemented => if st.cu1 then unimplemented else takeException (.coprocessorUnusable 1) u
          | .cop1LongInvalid => if st.cu1 then
            (if st.ops64 then unimplemented else takeException .reservedInstruction u)
            else takeException (.coprocessorUnusable 1) u
          | .cop2 => takeException (if st.cu2 then .reservedInstruction else .coprocessorUnusable 2) u))))) ∧
  (∀ w : Word,
    (opOf w = 0b010010#6 → decode w = .error .cop2) ∧
    (opOf w ∈ ([0x1D, 0x1E, 0x1F, 0x32, 0x36, 0x3A, 0x3B, 0x3E] : List (BitVec 6)) → decode w = .error .reserved) ∧
    (opOf w = 0b000000#6 → fnOf w ∈ ([0x05, 0x0E, 0x15, 0x28, 0x29, 0x35, 0x37, 0x39, 0x3D] : List (BitVec 6)) →
      decode w = .error .reserved) ∧
    (opOf w = 0b000000#6 → fnOf w ∈ ([0x18, 0x19] : List (BitVec 6)) →
      f4Of w ∉ ([0, 1, 3, 5, 7, 9, 11, 13, 15] : List (BitVec 5)) → decode w = .error .reserved) ∧
    (opOf w = 0b000001#6 → f2Of w ∈ ([0x04, 0x05, 0x06, 0x07, 0x0D, 0x0F, 0x14, 0x15, 0x16, 0x17, 0x18, 0x19, 0x1A,
      0x1B,
      0x1C, 0x1D, 0x1E, 0x1F] : List (BitVec 5)) → decode w = .error .reserved) ∧
    (opOf w = 0b011100#6 → fnOf w ∉ ([0x00, 0x01, 0x02, 0x04, 0x05, 0x20, 0x21, 0x24, 0x25] : List (BitVec 6)) →
      decode w = .error .reserved) ∧
    (opOf w = 0b010001#6 →
      f1Of w ∉ ([0x00, 0x01, 0x02, 0x04, 0x05, 0x06, 0x08, 0x10, 0x11, 0x14, 0x15] : List (BitVec 5)) ∨
      f1Of w ∈ ([0x10, 0x11] : List (BitVec 5)) ∧
        fnOf w ∈ ([0x10, 0x14, 0x17, 0x18, 0x19, 0x1A, 0x1B, 0x1C, 0x1D, 0x1E,
        0x1F, 0x22, 0x23, 0x26, 0x27, 0x28, 0x29, 0x2A, 0x2B, 0x2C, 0x2D, 0x2E, 0x2F] : List (BitVec 6)) ∨
      f1Of w = 0x10 ∧ fnOf w = 0x20 ∨ f1Of w = 0x11 ∧ fnOf w = 0x21 ∨
      f1Of w ∈ ([0x14, 0x15] : List (BitVec 5)) ∧
        fnOf w ∉ ([0x20, 0x21, 0x08, 0x09, 0x0A, 0x0B, 0x25] : List (BitVec 6)) →
      decode w = .error .cop1Unimplemented) ∧
    (opOf w = 0b010011#6 → fnOf w ∉ ([0x00, 0x01, 0x05, 0x08, 0x09, 0x0D, 0x0F, 0x20, 0x21, 0x28, 0x29, 0x30, 0x31,
      0x38, 0x39] : List (BitVec 6)) → decode w = .error .cop1Unimplemented) ∧
    (opOf w = 0b010000#6 → w.getLsbD 25 = true → fnOf w ∉ ([0x01, 0x02, 0x06, 0x08, 0x18, 0x20] : List (BitVec 6)) →
      decode w = .error .cop0) ∧
    (opOf w = 0b010000#6 → w.getLsbD 25 = false →
      f1Of w ∉ ([0, 1, 4, 5, 8] : List (BitVec 5)) ∨ f1Of w = 8 ∧ f2Of w ∉ ([0, 1, 2, 3] : List (BitVec 5)) →
      decode w = .error .cop0) ∧
    (∀ r, decode w = .error r →
      (r = .cop0 ↔ opOf w = 0b010000#6) ∧ (r = .cop2 ↔ opOf w = 0b010010#6) ∧
      (r = .cop1Unimplemented ∨ r = .cop1LongInvalid ↔ opOf w = 0b010001#6 ∨ opOf w = 0b010011#6) ∧
      (r = .cop1LongInvalid ↔ opOf w = 0b010001#6 ∧ f1Of w ∈ ([0b10100, 0b10101] : List (BitVec 5)) ∧
        fnOf w ∈ ([0x08, 0x09, 0x0A, 0x0B, 0x25] : List (BitVec 6))))) ∧
  (∀ (s : State) (k : BitVec 4) (happens : Bool), let t := s.countWhen k happens
    let Counts (c : PerfControl) : Prop := happens = true ∧ c.event = k ∧
      (if s.status.exl then c.exl = true else s.status.erl = false ∧
        (match s.status.mode with | .kernel => c.k | .supervisor => c.s | .user => c.u) = true)
    SameButCounters s t ∧
    (Counts s.cp0.perfControl0 → t.cp0.perfCounter0 = s.cp0.perfCounter0 + 1) ∧
    (¬ Counts s.cp0.perfControl0 → t.cp0.perfCounter0 = s.cp0.perfCounter0) ∧
    (Counts s.cp0.perfControl1 → t.cp0.perfCounter1 = s.cp0.perfCounter1 + 1) ∧
    (¬ Counts s.cp0.perfControl1 → t.cp0.perfCounter1 = s.cp0.perfCounter1) ∧
    (t.inputs.timerReq = true ↔ s.inputs.timerReq = true ∨
      Counts s.cp0.perfControl0 ∧ s.cp0.perfControl0.ie = true ∧ s.cp0.perfCounter0 = 0xFFFFFFFF ∨
      Counts s.cp0.perfControl1 ∧ s.cp0.perfControl1.ie = true ∧ s.cp0.perfCounter1 = 0xFFFFFFFF)) ∧
  (∀ (s : State) (w : Word), let cop1x := opOf w = 0b010011#6
    s.countKinds w = (((s.countWhen 2 (countsAsLoad w)).countWhen 3 (countsAsStore w)).countWhen 4
      (countsAsBranch w)).countWhen 5 (countsAsFp w) ∧
    (countsAsLoad w = true ↔ opOf w ∈ ([0x20, 0x21, 0x22, 0x23, 0x24, 0x25, 0x26, 0x27, 0x1A, 0x1B, 0x30, 0x34, 0x37,
      0x33, 0x2F, 0x31, 0x35] : List (BitVec 6)) ∨ cop1x ∧ fnOf w ∈ ([0x00, 0x01, 0x05, 0x0F] : List (BitVec 6))) ∧
    (countsAsStore w = true ↔ opOf w ∈ ([0x28, 0x29, 0x2A, 0x2B, 0x2C, 0x2D, 0x2E, 0x38, 0x3C, 0x3F, 0x39,
      0x3D] : List (BitVec 6)) ∨ cop1x ∧ fnOf w ∈ ([0x08, 0x09, 0x0D] : List (BitVec 6))) ∧
    (isJump w = false → (countsAsBranch w = true ↔
      opOf w ∈ ([0x04, 0x05, 0x06, 0x07, 0x14, 0x15, 0x16, 0x17] : List (BitVec 6)) ∨
      opOf w = 0b000001#6 ∧ w.getLsbD 19 = false ∨
      (opOf w = 0b010000#6 ∨ opOf w = 0b010001#6) ∧ f1Of w = 0b01000#5)))

/-- Words that the spec assembles decode to their instructions (30_encoding.md R218). -/
def Obligations.SpecWordsDecode : Prop :=
  decode 0x24020005 = .ok (.addiu 0 2 5) ∧ decode 0x8C830008 = .ok (.lw 4 3 8) ∧
    decode 0xAFA3FFFC = .ok (.sw 29 3 0xFFFC) ∧ decode 0x10220003 = .ok (.beq 1 2 3) ∧
    decode 0x08100000 = .ok (.j 0x0100000) ∧ decode 0x00231102 = .ok (.ror 3 2 4) ∧
    decode 0x0022182D = .ok (.daddu 1 2 3) ∧ decode 0x70850000 = .ok (.madd 4 5) ∧
    decode 0x40026000 = .ok (.mfc0 2 12) ∧ decode 0x46262080 = .ok (.fpAddD 6 4 2) ∧
    decode 0x4C462020 = .ok (.fpMaddS 2 6 4 0) ∧ decode 0x00641001 = .ok (.movf 3 1 2)

/-- Decoding the encoding of a well-formed instruction gives it back (30_encoding.md R201 to R218). -/
def Obligations.DecodeOfEncode : Prop :=
  ∀ i : Instr, i.wellFormed = true → decode (encode i) = .ok i

/-- The decoder answers only well-formed instructions (30_encoding.md R206; 30_encoding.md R208; 45_cp0_system.md
R701). -/
def Obligations.DecodedInstructionsAreWellFormed : Prop :=
  ∀ (w : Word) (i : Instr), decode w = .ok i → i.wellFormed = true

/-- Every step keeps memory in its canonical form (20_memory.md R101). -/
def Obligations.StepKeepsMemoryCanonical : Prop :=
  ∀ s t : State, s.Canonical → step s = .next t → t.Canonical

/-- Memory is canonical after reset (70_reset_and_hazards.md R1100; 20_memory.md R101). The model's choice of what
unwritten memory reads as is log 4. -/
def Obligations.ResetMemoryIsCanonical : Prop :=
  State.reset.Canonical

/-- What a cold reset leaves (70_reset_and_hazards.md R1100; 70_reset_and_hazards.md R1103; 70_reset_and_hazards.md
R1104; 10_state.md R60; 10_state.md R40; 10_state.md R45). The LL bit 0 is the spec's decision D25, the
interrupt register 0 its decision D26 (log 57); that memory is kept, that ErrorEPC gets pc and the step that
performs the reset are the model's reading (log 55); that a bus error in such a step has no effect is the
model's choice (log 75). -/
def Obligations.ColdResetState : Prop :=
  ∀ (s : State) (p : Pins),
    (s.inputs.coldReset = some p → s.afterEvents = .next (s.coldResetWith p)) ∧
    (∀ t : State, t = s.coldResetWith p ∨ t = State.reset →
      ContinuesAt t 0xFFFFFFFFBFC00000 0xFFFFFFFFBFC00004 false ∧
      t.status.erl = true ∧ t.status.bev = true ∧ t.status.sr = false ∧ t.status.mode = .kernel ∧
      t.cp0.random = 47 ∧ t.cp0.wired = 0 ∧ t.cp0.perfCounter0 = 0 ∧ t.cp0.perfCounter1 = 0 ∧
      t.cp0.perfControl0.toWord = 0 ∧ t.cp0.perfControl1.toWord = 0 ∧
      t.llBit = false ∧ t.inputs.intReg = 0 ∧ t.inputs.timerReq = false) ∧
    State.reset.runState = .running ∧
    (let t := s.coldResetWith p
     t.runState = (if s.inputs.resetPin then .held else .running) ∧
     t.pins = p ∧ SameMemory s t ∧ t.cp0.errorEpc = s.pc)

/-- Soft reset, NMI and cache error save the restart address in ErrorEPC and set ERL; the reset pins hold the
processor (70_reset_and_hazards.md R1101; 70_reset_and_hazards.md R1102; 70_reset_and_hazards.md R1103;
60_exceptions.md R1044; 60_exceptions.md R1021; 10_state.md R40). The LL bit cleared is the spec's decision D25
(log 57), the cut at an instruction boundary with all registers and memory kept its decision D58, one NMI for
each request its decision D54 (log 55); the cache error is an event of the environment (log 17); that a bus
error in such a step has no effect is the model's choice (log 75). -/
def Obligations.SoftResetAndNmi : Prop :=
  (∀ s : State, s.inputs.coldReset = none →
    let restart := if s.inDelay then s.pc - 4 else s.pc
    let Kept (t : State) : Prop := t.runState = .running ∧ t.tlb = s.tlb ∧ t.fcr31 = s.fcr31 ∧
      SameRegs s t ∧ SameHiLo s t ∧ SameFpRegs s t ∧ SameMemory s t
    (s.inputs.softReset = true ∨ (s.inputs.softReset = false ∧ s.runState ≠ .held ∧ s.inputs.nmiPending ≠ 0) →
      ∃ t, s.afterEvents = .next t ∧ ContinuesAt t 0xFFFFFFFFBFC00000 0xFFFFFFFFBFC00004 false ∧
        t.cp0 = { s.cp0 with
          errorEpc := restart, status := { s.status with bev := true, sr := true, erl := true } } ∧
        t.llBit = false ∧ Kept t ∧
        t.inputs.nmiPending = (if s.inputs.softReset then s.inputs.nmiPending else s.inputs.nmiPending - 1)) ∧
    (s.inputs.softReset = false → s.runState = .held → s.afterEvents = .next s) ∧
    (s.inputs.softReset = false → s.runState ≠ .held → s.inputs.nmiPending = 0 → s.status.de = false →
      ∀ bits, s.inputs.cacheErr = some bits →
      ∃ t, s.afterEvents = .next t ∧
        ContinuesAt t (if s.status.bev then 0xFFFFFFFFBFC00300 else 0xFFFFFFFFA0000100)
          (if s.status.bev then 0xFFFFFFFFBFC00304 else 0xFFFFFFFFA0000104) false ∧
        t.cp0 = { s.cp0 with errorEpc := restart, cacheError := bits, status := { s.status with erl := true } } ∧
        (t.readCp0 27).setWidth 32 = bits.setWidth 32 <<< 25 ∧ SameLink s t ∧ Kept t) ∧
    (s.status.de = true → s.pendingCacheError = none)) ∧
  (∀ (s : State) (p : Pins),
    (let t := s.deliverEvent .resetAsserted; t.runState = .held ∧ t.inputs.resetPin = true) ∧
    (let t := s.deliverEvent .coldResetAsserted; t.runState = .held ∧ t.inputs.coldResetPin = true) ∧
    (s.inputs.coldResetPin = true → let t := s.deliverEvent (.coldResetDeasserted p)
      t.inputs.coldReset = some p ∧ t.inputs.coldResetPin = false ∧ t.inputs.coldStart = s.inputs.resetPin) ∧
    (s.inputs.resetPin = true → s.inputs.coldResetPin = false → let t := s.deliverEvent .resetDeasserted
      t.inputs.resetPin = false ∧
      (s.inputs.coldStart = true → t.runState = .running ∧ t.inputs.softReset = s.inputs.softReset) ∧
      (s.inputs.coldStart = false → t.runState = s.runState ∧ t.inputs.softReset = true)))

/-- r0 reads 0 and discards writes; the other registers hold what was written (10_state.md R1). -/
def Obligations.ZeroRegister : Prop :=
  ∀ (s : State) (r q : RegNum) (v : Dword),
    s.reg 0 = 0 ∧ s.setReg 0 v = s ∧ (r ≠ 0 → (s.setReg r v).reg r = v) ∧ (q ≠ r → (s.setReg r v).reg q = s.reg q) ∧
    (¬ InWord ((low (s.reg r)).toInt + (low (s.reg q)).toInt) → Raises (.add r q 0) s .overflow)

/-- 32-bit additions and subtractions write their sign-extended word and nothing else (41_alu.md R400; 41_alu.md
R401; 41_alu.md R402; 41_alu.md R404; 41_alu.md R405; 41_alu.md R414; 41_alu.md R415; 41_alu.md R416; 41_alu.md
R417). What an operand that is no sign-extended word gives is the model's free value (log 18). -/
def Obligations.WordAddSubtract : Prop :=
  ∀ (s : State) (rs rt rd : RegNum) (imm : BitVec 16),
    Computes (.addiu rs rt imm) s rt (wordValue s rs 0 (low (s.reg rs) + imm.signExtend 32)) ∧
    Computes (.addu rs rt rd) s rd (wordValue s rs rt (low (s.reg rs) + low (s.reg rt))) ∧
    Computes (.subu rs rt rd) s rd (wordValue s rs rt (low (s.reg rs) - low (s.reg rt))) ∧
    (InWord ((low (s.reg rs)).toInt + imm.toInt) →
      Computes (.addi rs rt imm) s rt (wordValue s rs 0 (low (s.reg rs) + imm.signExtend 32))) ∧
    (InWord ((low (s.reg rs)).toInt + (low (s.reg rt)).toInt) →
      Computes (.add rs rt rd) s rd (wordValue s rs rt (low (s.reg rs) + low (s.reg rt)))) ∧
    (InWord ((low (s.reg rs)).toInt - (low (s.reg rt)).toInt) →
      Computes (.sub rs rt rd) s rd (wordValue s rs rt (low (s.reg rs) - low (s.reg rt))))

/-- ADD, ADDI, SUB, DADD, DADDI and DSUB raise integer overflow exactly when the exact result does not fit
(41_alu.md R402; 60_exceptions.md R1003; 60_exceptions.md R1016). BD is written also with EXL set by the spec's
decision D51 (log 54). -/
def Obligations.IntegerOverflowRaises : Prop :=
  ∀ (s : State) (rs rt rd : RegNum) (imm : BitVec 16),
    let Checked (i : Instr) (fits : Prop) (d : RegNum) : Prop :=
      (fits → ∃ v, Computes i s d v) ∧
      (¬ fits → ∃ t, exec i s = .next t ∧ t = takeException .overflow s ∧ SameRegs s t ∧ t.cp0.cause.excCode = 12 ∧
        t.cp0.cause.bd = s.inDelay ∧
        (s.status.exl = false → t.cp0.epc = if s.inDelay then s.pc - 4 else s.pc))
    Checked (.addi rs rt imm) (InWord ((low (s.reg rs)).toInt + imm.toInt)) rt ∧
    Checked (.add rs rt rd) (InWord ((low (s.reg rs)).toInt + (low (s.reg rt)).toInt)) rd ∧
    Checked (.sub rs rt rd) (InWord ((low (s.reg rs)).toInt - (low (s.reg rt)).toInt)) rd ∧
    (s.status.ops64 = true →
      Checked (.daddi rs rt imm) (InDword ((s.reg rs).toInt + imm.toInt)) rt ∧
      Checked (.dadd rs rt rd) (InDword ((s.reg rs).toInt + (s.reg rt).toInt)) rd ∧
      Checked (.dsub rs rt rd) (InDword ((s.reg rs).toInt - (s.reg rt).toInt)) rd)

/-- 64-bit additions and subtractions write their doubleword and nothing else (41_alu.md R412; 41_alu.md R413;
41_alu.md R424; 41_alu.md R425; 41_alu.md R426; 41_alu.md R427). -/
def Obligations.DoublewordAddSubtract : Prop :=
  ∀ (s : State) (rs rt rd : RegNum) (imm : BitVec 16), s.status.ops64 = true →
    Computes (.daddiu rs rt imm) s rt (s.reg rs + imm.signExtend 64) ∧
    Computes (.daddu rs rt rd) s rd (s.reg rs + s.reg rt) ∧
    Computes (.dsubu rs rt rd) s rd (s.reg rs - s.reg rt) ∧
    (InDword ((s.reg rs).toInt + imm.toInt) →
      Computes (.daddi rs rt imm) s rt (BitVec.ofInt 64 ((s.reg rs).toInt + imm.toInt))) ∧
    (InDword ((s.reg rs).toInt + (s.reg rt).toInt) →
      Computes (.dadd rs rt rd) s rd (BitVec.ofInt 64 ((s.reg rs).toInt + (s.reg rt).toInt))) ∧
    (InDword ((s.reg rs).toInt - (s.reg rt).toInt) →
      Computes (.dsub rs rt rd) s rd (BitVec.ofInt 64 ((s.reg rs).toInt - (s.reg rt).toInt)))

/-- The logical instructions and LUI write all 64 bits of their destination and nothing else (41_alu.md R408;
41_alu.md R409; 41_alu.md R410; 41_alu.md R411; 41_alu.md R420; 41_alu.md R421; 41_alu.md R422; 41_alu.md R423). -/
def Obligations.LogicalInstructions : Prop :=
  ∀ (s : State) (rs rt rd : RegNum) (imm : BitVec 16),
    Computes (.and rs rt rd) s rd (s.reg rs &&& s.reg rt) ∧ Computes (.or rs rt rd) s rd (s.reg rs ||| s.reg rt) ∧
    Computes (.xor rs rt rd) s rd (s.reg rs ^^^ s.reg rt) ∧
    Computes (.nor rs rt rd) s rd (~~~(s.reg rs ||| s.reg rt)) ∧
    Computes (.andi rs rt imm) s rt (s.reg rs &&& (0#48 ++ imm)) ∧
    Computes (.ori rs rt imm) s rt (s.reg rs ||| (0#48 ++ imm)) ∧
    Computes (.xori rs rt imm) s rt (s.reg rs ^^^ (0#48 ++ imm)) ∧
    Computes (.lui rt imm) s rt ((imm ++ 0#16).signExtend 64)

/-- Set-on-less-than writes 1 or 0; MOVN and MOVZ move or leave their destination (41_alu.md R406; 41_alu.md R407;
41_alu.md R418; 41_alu.md R419; 41_alu.md R428; 41_alu.md R429). -/
def Obligations.ComparesAndConditionalMoves : Prop :=
  ∀ (s : State) (rs rt rd : RegNum) (imm : BitVec 16),
    Computes (.slt rs rt rd) s rd (if (s.reg rs).toInt < (s.reg rt).toInt then 1 else 0) ∧
    Computes (.sltu rs rt rd) s rd (if (s.reg rs).toNat < (s.reg rt).toNat then 1 else 0) ∧
    Computes (.slti rs rt imm) s rt (if (s.reg rs).toInt < imm.toInt then 1 else 0) ∧
    Computes (.sltiu rs rt imm) s rt (if (s.reg rs).toNat < (imm.signExtend 64).toNat then 1 else 0) ∧
    (s.status.mips4 = true →
      (if s.reg rt = 0 then Computes (.movz rs rt rd) s rd (s.reg rs) ∧ DoesNothing (.movn rs rt rd) s
       else Computes (.movn rs rt rd) s rd (s.reg rs) ∧ DoesNothing (.movz rs rt rd) s))

/-- CLZ, CLO, DCLZ and DCLO write the number of leading zeros or ones (41_alu.md R450; 41_alu.md R451; 41_alu.md
R452; 41_alu.md R453). What an operand that is no sign-extended word gives is the model's free value (log 18). -/
def Obligations.LeadingBitCounts : Prop :=
  ∀ (s : State) (rs rd : RegNum),
    (∃ n, n ≤ 32 ∧ Computes (.clz rs rd) s rd (wordValue s rs 0 (BitVec.ofNat 32 n)) ∧
      (∀ i, 32 - n ≤ i → i < 32 → (s.reg rs).getLsbD i = false) ∧ (n < 32 → (s.reg rs).getLsbD (31 - n) = true)) ∧
    (∃ n, n ≤ 32 ∧ Computes (.clo rs rd) s rd (wordValue s rs 0 (BitVec.ofNat 32 n)) ∧
      (∀ i, 32 - n ≤ i → i < 32 → (s.reg rs).getLsbD i = true) ∧ (n < 32 → (s.reg rs).getLsbD (31 - n) = false)) ∧
    (s.status.ops64 = true → ∃ n, n ≤ 64 ∧ Computes (.dclz rs rd) s rd (BitVec.ofNat 64 n) ∧
      (∀ i, 64 - n ≤ i → i < 64 → (s.reg rs).getLsbD i = false) ∧ (n < 64 → (s.reg rs).getLsbD (63 - n) = true)) ∧
    (s.status.ops64 = true → ∃ n, n ≤ 64 ∧ Computes (.dclo rs rd) s rd (BitVec.ofNat 64 n) ∧
      (∀ i, 64 - n ≤ i → i < 64 → (s.reg rs).getLsbD i = true) ∧ (n < 64 → (s.reg rs).getLsbD (63 - n) = false))

/-- 32-bit shifts write the sign-extended shifted word and nothing else (41_alu.md R430; 41_alu.md R431; 41_alu.md
R432; 41_alu.md R433; 41_alu.md R434; 41_alu.md R435; 44_special_trap.md R653). What an operand that is no sign-
extended word gives is the model's free value (log 18). -/
def Obligations.WordShifts : Prop :=
  ∀ (s : State) (rs rt rd : RegNum) (sa : BitVec 5),
    Computes (.sll rt rd sa) s rd ((low (s.reg rt) <<< sa.toNat).signExtend 64) ∧
    Computes (.srl rt rd sa) s rd (wordValue s rt 0 (low (s.reg rt) >>> sa.toNat)) ∧
    Computes (.sra rt rd sa) s rd (wordValue s rt 0 ((low (s.reg rt)).sshiftRight sa.toNat)) ∧
    Computes (.sllv rs rt rd) s rd ((low (s.reg rt) <<< ((s.reg rs).toNat % 32)).signExtend 64) ∧
    Computes (.srlv rs rt rd) s rd (wordValue s rs rt (low (s.reg rt) >>> ((s.reg rs).toNat % 32))) ∧
    Computes (.srav rs rt rd) s rd (wordValue s rs rt ((low (s.reg rt)).sshiftRight ((s.reg rs).toNat % 32))) ∧
    DoesNothing .ssnop s

/-- 64-bit shifts write the shifted doubleword and nothing else (41_alu.md R436; 41_alu.md R437; 41_alu.md R438;
41_alu.md R439; 41_alu.md R440; 41_alu.md R441; 41_alu.md R442; 41_alu.md R443; 41_alu.md R444). -/
def Obligations.DoublewordShifts : Prop :=
  ∀ (s : State) (rs rt rd : RegNum) (sa : BitVec 5), s.status.ops64 = true →
    Computes (.dsll rt rd sa) s rd (s.reg rt <<< sa.toNat) ∧ Computes (.dsrl rt rd sa) s rd (s.reg rt >>> sa.toNat) ∧
    Computes (.dsra rt rd sa) s rd ((s.reg rt).sshiftRight sa.toNat) ∧
    Computes (.dsll32 rt rd sa) s rd (s.reg rt <<< (32 + sa.toNat)) ∧
    Computes (.dsrl32 rt rd sa) s rd (s.reg rt >>> (32 + sa.toNat)) ∧
    Computes (.dsra32 rt rd sa) s rd ((s.reg rt).sshiftRight (32 + sa.toNat)) ∧
    Computes (.dsllv rs rt rd) s rd (s.reg rt <<< ((s.reg rs).toNat % 64)) ∧
    Computes (.dsrlv rs rt rd) s rd (s.reg rt >>> ((s.reg rs).toNat % 64)) ∧
    Computes (.dsrav rs rt rd) s rd ((s.reg rt).sshiftRight ((s.reg rs).toNat % 64))

/-- Rotates move every bit of the word or doubleword round to the right (41_alu.md R445; 41_alu.md R446; 41_alu.md
R447; 41_alu.md R448; 41_alu.md R449). -/
def Obligations.Rotates : Prop :=
  ∀ (s : State) (rs rt rd : RegNum) (sa : BitVec 5),
    (∃ w : Word, Computes (.ror rt rd sa) s rd (w.signExtend 64) ∧
      ∀ i < 32, w.getLsbD i = (s.reg rt).getLsbD ((i + sa.toNat) % 32)) ∧
    (∃ w : Word, Computes (.rorv rs rt rd) s rd (w.signExtend 64) ∧
      ∀ i < 32, w.getLsbD i = (s.reg rt).getLsbD ((i + (s.reg rs).toNat % 32) % 32)) ∧
    (s.status.ops64 = true →
      (∃ v : Dword, Computes (.dror rt rd sa) s rd v ∧
        ∀ i < 64, v.getLsbD i = (s.reg rt).getLsbD ((i + sa.toNat) % 64)) ∧
      (∃ v : Dword, Computes (.dror32 rt rd sa) s rd v ∧
        ∀ i < 64, v.getLsbD i = (s.reg rt).getLsbD ((i + 32 + sa.toNat) % 64)) ∧
      (∃ v : Dword, Computes (.drorv rs rt rd) s rd v ∧
        ∀ i < 64, v.getLsbD i = (s.reg rt).getLsbD ((i + (s.reg rs).toNat % 32) % 64)))

/-- MULT, MULTU, DIV and DIVU write HI and LO and nothing else (42_muldiv.md R501; 42_muldiv.md R504; 42_muldiv.md
R505; 42_muldiv.md R506; 42_muldiv.md R507). What other operands give is the model's free values (log 18, log
19); that division truncates is the spec's R500 (log 60). -/
def Obligations.WordMultiplyDivide : Prop :=
  ∀ (s : State) (rs rt : RegNum), let a := low (s.reg rs); let b := low (s.reg rt)
    let p := BitVec.ofInt 64 (a.toInt * b.toInt); let u := BitVec.ofNat 64 (a.toNat * b.toNat)
    (isSext (s.reg rs) = true → isSext (s.reg rt) = true →
      ComputesHiLo (.mult rs rt) s (sext (high p)) (sext (low p)) 0 0 ∧
      ComputesHiLo (.multu rs rt) s (sext (high u)) (sext (low u)) 0 0 ∧
      (b ≠ 0 →
        ComputesHiLo (.div rs rt) s (sext (BitVec.ofInt 32 (a.toInt.tmod b.toInt)))
          (sext (BitVec.ofInt 32 (a.toInt.tdiv b.toInt))) 0 0 ∧
        ComputesHiLo (.divu rs rt) s (sext (BitVec.ofNat 32 (a.toNat % b.toNat)))
          (sext (BitVec.ofNat 32 (a.toNat / b.toNat))) 0 0)) ∧
    ((isSext (s.reg rs) && isSext (s.reg rt)) = false →
      ComputesHiLo (.mult rs rt) s (s.free 0) (s.free 1) 0 0 ∧
      ComputesHiLo (.multu rs rt) s (s.free 0) (s.free 1) 0 0) ∧
    ((isSext (s.reg rs) && isSext (s.reg rt) && b != 0) = false →
      ComputesHiLo (.div rs rt) s (s.free 0) (s.free 1) 0 0 ∧
      ComputesHiLo (.divu rs rt) s (s.free 0) (s.free 1) 0 0)

/-- DMULT, DMULTU, DDIV and DDIVU write HI and LO and nothing else (42_muldiv.md R500; 42_muldiv.md R508;
42_muldiv.md R509; 42_muldiv.md R510; 42_muldiv.md R511). What a divisor of 0 gives is the model's free values
(log 19); that division truncates and the remainder has the sign of the dividend is the spec's R500, general
knowledge (item G18, log 60). -/
def Obligations.DoublewordMultiplyDivide : Prop :=
  ∀ (s : State) (rs rt : RegNum), s.status.ops64 = true → let a := s.reg rs; let b := s.reg rt
    ComputesHiLo (.dmult rs rt) s (BitVec.ofInt 64 (a.toInt * b.toInt / 2 ^ 64)) (BitVec.ofInt 64
      (a.toInt * b.toInt)) 0 0 ∧
    ComputesHiLo (.dmultu rs rt) s (BitVec.ofNat 64 (a.toNat * b.toNat / 2 ^ 64)) (BitVec.ofNat 64
      (a.toNat * b.toNat)) 0 0 ∧
    (if b = 0 then
      ComputesHiLo (.ddiv rs rt) s (s.free 0) (s.free 1) 0 0 ∧ ComputesHiLo (.ddivu rs rt) s (s.free 0) (s.free 1) 0 0
    else
      ComputesHiLo (.ddiv rs rt) s (BitVec.ofInt 64 (a.toInt.tmod b.toInt)) (BitVec.ofInt 64
        (a.toInt.tdiv b.toInt)) 0 0 ∧
      ComputesHiLo (.ddivu rs rt) s (BitVec.ofNat 64 (a.toNat % b.toNat)) (BitVec.ofNat 64 (a.toNat / b.toNat)) 0 0)

/-- MFHI, MFLO, MTHI and MTLO move all 64 bits and nothing else (42_muldiv.md R504 to R507; 42_muldiv.md R512;
42_muldiv.md R513; 42_muldiv.md R514; 42_muldiv.md R515). The free value after a multiply or divide is the
model's reading of item U7 (log 20). -/
def Obligations.HiLoMoves : Prop :=
  ∀ (s : State) (rs rd : RegNum),
    Computes (.mfhi rd) s rd s.hi ∧ Computes (.mflo rd) s rd s.lo ∧
    ComputesHiLo (.mthi rs) s (s.reg rs) (if s.hiLoFresh then s.free 0 else s.lo) 0 0 ∧
    ComputesHiLo (.mtlo rs) s (if s.hiLoFresh then s.free 0 else s.hi) (s.reg rs) 0 0 ∧
    (∀ (i : Instr) (t : State), exec i s = .next t →
      let Sets : Prop := ∃ a b, i ∈ ([.mult a b, .multu a b, .div a b, .divu a b] : List Instr)
      let Clears : Prop := ∃ a, i ∈ ([.mfhi a, .mflo a, .mthi a, .mtlo a] : List Instr)
      (Sets → t.hiLoFresh = true) ∧ (Clears → t.hiLoFresh = false) ∧
      (¬ Sets → ¬ Clears → t.hiLoFresh = s.hiLoFresh))

/-- MADD, MADDU, MSUB, MSUBU add to the accumulator; MUL64 writes its register (42_muldiv.md R500; 42_muldiv.md
R501; 42_muldiv.md R516; 42_muldiv.md R517; 42_muldiv.md R518; 42_muldiv.md R519; 42_muldiv.md R520). HI and LO
after MUL64 are the model's free values (log 21); the sign extension of rd is the spec's D8 (log 66). -/
def Obligations.SumsOfProducts : Prop :=
  ∀ (s : State) (rs rt rd : RegNum), let a := low (s.reg rs); let b := low (s.reg rt)
    let acc : Int := ((low s.hi).toNat * 2 ^ 32 + (low s.lo).toNat : Nat)
    let p : Int := a.toInt * b.toInt; let u : Int := (a.toNat * b.toNat : Nat)
    let hi (x : Int) := sext (high (BitVec.ofInt 64 x)); let lo (x : Int) := sext (low (BitVec.ofInt 64 x))
    ComputesHiLo (.madd rs rt) s (hi (acc + p)) (lo (acc + p)) 0 0 ∧
    ComputesHiLo (.maddu rs rt) s (hi (acc + u)) (lo (acc + u)) 0 0 ∧
    ComputesHiLo (.msub rs rt) s (hi (acc - p)) (lo (acc - p)) 0 0 ∧
    ComputesHiLo (.msubu rs rt) s (hi (acc - u)) (lo (acc - u)) 0 0 ∧
    ComputesHiLo (.mul64 rs rt rd) s (s.free 0) (s.free 1) rd (lo p)

/-- The sixteen MACC instructions write HI, LO and rd and nothing else (42_muldiv.md R501; 42_muldiv.md R521 to
R536; 42_muldiv.md R538). The sign extension of HI, LO and rd is the decision D8 of the spec (log 66). -/
def Obligations.MaccFamily : Prop :=
  ∀ (s : State) (rs rt rd : RegNum), let a := low (s.reg rs); let b := low (s.reg rt)
    let acc : Int := ((low s.hi).toNat * 2 ^ 32 + (low s.lo).toNat : Nat)
    let p : Int := a.toInt * b.toInt; let u : Int := (a.toNat * b.toNat : Nat)
    let hi (x : Int) := sext (high (BitVec.ofInt 64 x)); let lo (x : Int) := sext (low (BitVec.ofInt 64 x))
    ComputesHiLo (.macc rs rt rd) s (hi (acc + p)) (lo (acc + p)) rd (lo (acc + p)) ∧
    ComputesHiLo (.macchi rs rt rd) s (hi (acc + p)) (lo (acc + p)) rd (hi (acc + p)) ∧
    ComputesHiLo (.macchiu rs rt rd) s (hi (acc + u)) (lo (acc + u)) rd (hi (acc + u)) ∧
    ComputesHiLo (.maccu rs rt rd) s (hi (acc + u)) (lo (acc + u)) rd (lo (acc + u)) ∧
    ComputesHiLo (.msac rs rt rd) s (hi (acc - p)) (lo (acc - p)) rd (lo (acc - p)) ∧
    ComputesHiLo (.msachi rs rt rd) s (hi (acc - p)) (lo (acc - p)) rd (hi (acc - p)) ∧
    ComputesHiLo (.msachiu rs rt rd) s (hi (acc - u)) (lo (acc - u)) rd (hi (acc - u)) ∧
    ComputesHiLo (.msacu rs rt rd) s (hi (acc - u)) (lo (acc - u)) rd (lo (acc - u)) ∧
    ComputesHiLo (.mul rs rt rd) s (hi p) (lo p) rd (lo p) ∧
    ComputesHiLo (.mulhi rs rt rd) s (hi p) (lo p) rd (hi p) ∧
    ComputesHiLo (.mulhiu rs rt rd) s (hi u) (lo u) rd (hi u) ∧
    ComputesHiLo (.muls rs rt rd) s (hi (-p)) (lo (-p)) rd (lo (-p)) ∧
    ComputesHiLo (.mulshi rs rt rd) s (hi (-p)) (lo (-p)) rd (hi (-p)) ∧
    ComputesHiLo (.mulshiu rs rt rd) s (hi (-u)) (lo (-u)) rd (hi (-u)) ∧
    ComputesHiLo (.mulsu rs rt rd) s (hi (-u)) (lo (-u)) rd (lo (-u)) ∧
    ComputesHiLo (.mulu rs rt rd) s (hi u) (lo u) rd (lo u)

/-- A trap instruction raises the trap exception when its condition holds and does nothing else (44_special_trap.md
R655 to R667). -/
def Obligations.ConditionalTraps : Prop :=
  ∀ (s : State) (rs rt : RegNum) (imm : BitVec 16) (code : BitVec 10),
    (if (s.reg rt).toInt ≤ (s.reg rs).toInt then Raises (.tge rs rt code) s .trap else DoesNothing
      (.tge rs rt code) s) ∧
    (if (s.reg rt).toNat ≤ (s.reg rs).toNat then Raises (.tgeu rs rt code) s .trap else DoesNothing
      (.tgeu rs rt code) s) ∧
    (if (s.reg rs).toInt < (s.reg rt).toInt then Raises (.tlt rs rt code) s .trap else DoesNothing
      (.tlt rs rt code) s) ∧
    (if (s.reg rs).toNat < (s.reg rt).toNat then Raises (.tltu rs rt code) s .trap else DoesNothing
      (.tltu rs rt code) s) ∧
    (if s.reg rs = s.reg rt then Raises (.teq rs rt code) s .trap else DoesNothing (.teq rs rt code) s) ∧
    (if s.reg rs ≠ s.reg rt then Raises (.tne rs rt code) s .trap else DoesNothing (.tne rs rt code) s) ∧
    (if imm.toInt ≤ (s.reg rs).toInt then Raises (.tgei rs imm) s .trap else DoesNothing (.tgei rs imm) s) ∧
    (if (imm.signExtend 64).toNat ≤ (s.reg rs).toNat then Raises (.tgeiu rs imm) s .trap else DoesNothing
      (.tgeiu rs imm) s) ∧
    (if (s.reg rs).toInt < imm.toInt then Raises (.tlti rs imm) s .trap else DoesNothing (.tlti rs imm) s) ∧
    (if (s.reg rs).toNat < (imm.signExtend 64).toNat then Raises (.tltiu rs imm) s .trap else DoesNothing
      (.tltiu rs imm) s) ∧
    (if s.reg rs = imm.signExtend 64 then Raises (.teqi rs imm) s .trap else DoesNothing (.teqi rs imm) s) ∧
    (if s.reg rs ≠ imm.signExtend 64 then Raises (.tnei rs imm) s .trap else DoesNothing (.tnei rs imm) s)

/-- SYSCALL and BREAK take their exceptions unconditionally; the codes of the exceptions (44_special_trap.md R650;
44_special_trap.md R651; 60_exceptions.md R1002; 60_exceptions.md R1012; 60_exceptions.md R1013). The code of
TLBP with several matches is the decision D42 of the spec (log 40). -/
def Obligations.SystemCallBreakpointAndCodes : Prop :=
  (∀ (s : State) (code : BitVec 20),
    ∃ t u, exec (.syscall code) s = .next t ∧ t = takeException .syscall s ∧ t.cp0.cause.excCode = 8 ∧
      exec (.breakpoint code) s = .next u ∧ u = takeException .breakpoint s ∧ u.cp0.cause.excCode = 9 ∧
      t.cp0.cause.ce = 0 ∧ u.cp0.cause.ce = 0 ∧ t.status.exl = true ∧ u.status.exl = true ∧ t.pc = u.pc ∧
      t.pc = (if s.status.bev then 0xFFFFFFFFBFC00380 else 0xFFFFFFFF80000180)) ∧
  (∀ (va : Dword) (m : Bool) (u : BitVec 2),
    Exc.code .interrupt = 0 ∧ Exc.code (.tlbModified va) = 1 ∧
    Exc.code (.tlbRefill va false m) = 2 ∧ Exc.code (.tlbRefill va true m) = 3 ∧
    Exc.code (.tlbInvalid va false) = 2 ∧ Exc.code (.tlbInvalid va true) = 3 ∧
    Exc.code (.addressErrorData va false) = 4 ∧ Exc.code (.addressErrorData va true) = 5 ∧
    Exc.code (.addressErrorFetch va) = 4 ∧ Exc.code .busErrorFetch = 6 ∧ Exc.code .busErrorData = 7 ∧
    Exc.code .syscall = 8 ∧ Exc.code .breakpoint = 9 ∧ Exc.code .reservedInstruction = 10 ∧
    Exc.code (.coprocessorUnusable u) = 11 ∧ Exc.code .overflow = 12 ∧ Exc.code .trap = 13 ∧
    Exc.code .floatingPoint = 15 ∧ Exc.code .watch = 23 ∧ Exc.code .tlbpMultiple = 2)

/-- The aligned loads write the extended memory item to rt and nothing else (40_load_store.md R300; 40_load_store.md
R307 to R313). -/
def Obligations.AlignedLoads : Prop :=
  ∀ (s : State) (base rt : RegNum) (offset : BitVec 16) (pa : PAddr) (attr : CacheAttr),
    let va := s.reg base + offset.signExtend 64
    (Accessible s va 1 false pa attr →
      Computes (.lb base rt offset) s rt (((s.memRead pa 1).setWidth 8).signExtend 64)) ∧
    (Accessible s va 1 false pa attr → Computes (.lbu base rt offset) s rt (s.memRead pa 1)) ∧
    (Accessible s va 2 false pa attr →
      Computes (.lh base rt offset) s rt (((s.memRead pa 2).setWidth 16).signExtend 64)) ∧
    (Accessible s va 2 false pa attr → Computes (.lhu base rt offset) s rt (s.memRead pa 2)) ∧
    (Accessible s va 4 false pa attr →
      Computes (.lw base rt offset) s rt (((s.memRead pa 4).setWidth 32).signExtend 64)) ∧
    (s.status.ops64 = true → Accessible s va 4 false pa attr → Computes (.lwu base rt offset) s rt (s.memRead pa 4)) ∧
    (s.status.ops64 = true → Accessible s va 8 false pa attr → Computes (.ld base rt offset) s rt (s.memRead pa 8))

/-- A memory item is made of its bytes in the configured byte order, read and written (20_memory.md R101). -/
def Obligations.MemoryItems : Prop :=
  ∀ (s : State) (pa : PAddr) (n i : Nat) (v : Dword), n ≤ 8 →
    (i < n → ((s.memRead pa n) >>> (8 * i)).setWidth 8 =
      s.byteAt (pa.toNat + if s.pins.bigEndian then n - 1 - i else i)) ∧
    (8 * n ≤ i → (s.memRead pa n).getLsbD i = false) ∧
    (s.Canonical → i < n → (s.memWrite pa n v).byteAt (pa.toNat + i) =
      (v >>> (8 * if s.pins.bigEndian then n - 1 - i else i)).setWidth 8) ∧
    SameMemoryBut s (s.memWrite pa n v) pa.toNat n

/-- LWL, LWR, LDL and LDR merge the addressed part of the doubleword into rt (40_load_store.md R314;
40_load_store.md R315; 40_load_store.md R316; 40_load_store.md R317). -/
def Obligations.LeftRightLoads : Prop :=
  ∀ (s : State) (base rt : RegNum) (offset : BitVec 16) (pa : PAddr) (attr : CacheAttr),
    let va := s.reg base + offset.signExtend 64
    Accessible s va 1 false pa attr →
    let dw := s.memRead (pa &&& ~~~7#36) 8
    let byte := if s.pins.bigEndian then 3 - va.toNat % 4 else va.toNat % 4
    let word := if s.pins.bigEndian then 1 - va.toNat / 4 % 2 else va.toNat / 4 % 2
    let byte8 := if s.pins.bigEndian then 7 - va.toNat % 8 else va.toNat % 8
    (∃ w : Word, Computes (.lwl base rt offset) s rt (w.signExtend 64) ∧ ∀ i < 32, w.getLsbD i =
      if i < 24 - 8 * byte then (s.reg rt).getLsbD i else dw.getLsbD (32 * word + (i - (24 - 8 * byte)))) ∧
    (∃ w : Word, Computes (.lwr base rt offset) s rt (w.signExtend 64) ∧ ∀ i < 32, w.getLsbD i =
      if i < 32 - 8 * byte then dw.getLsbD (32 * word + 8 * byte + i) else (s.reg rt).getLsbD i) ∧
    (s.status.ops64 = true →
      (∃ v : Dword, Computes (.ldl base rt offset) s rt v ∧ ∀ i < 64, v.getLsbD i =
        if i < 56 - 8 * byte8 then (s.reg rt).getLsbD i else dw.getLsbD (i - (56 - 8 * byte8))) ∧
      (∃ v : Dword, Computes (.ldr base rt offset) s rt v ∧ ∀ i < 64, v.getLsbD i =
        if i < 64 - 8 * byte8 then dw.getLsbD (8 * byte8 + i) else (s.reg rt).getLsbD i))

/-- LL and LLD load, set the LL bit and record the address; at an uncached address they stop (40_load_store.md R326;
40_load_store.md R327; 10_state.md R27; 20_memory.md R130). The refusal at an uncached address is the model's
treatment of item U5 (log 24), attribute codes 0 and 6 as uncached that of item U12 (log 14). -/
def Obligations.LoadLinked : Prop :=
  ∀ (s : State) (base rt : RegNum) (offset : BitVec 16) (pa : PAddr) (attr : CacheAttr),
    let va := s.reg base + offset.signExtend 64
    (Accessible s va 4 false pa attr → isCacheable attr = true →
      ∃ t, exec (.ll base rt offset) s = .next t ∧ Advanced s t ∧
        t.reg rt = (if rt = 0 then 0 else ((s.memRead pa 4).setWidth 32).signExtend 64) ∧
        SameRegsBut s t rt ∧ t.llBit = true ∧ t.linkAddr = pa ∧
        t.cp0 = { s.cp0 with llAddr := pa.extractLsb' 4 32 } ∧ t.tlb = s.tlb ∧ SameHiLo s t ∧ SameFpRegs s t ∧
        t.fcr31 = s.fcr31 ∧ SameMemory s t ∧ SameWorld s t) ∧
    (Accessible s va 4 false pa attr → isCacheable attr = false →
      exec (.ll base rt offset) s = .refused .llUncached) ∧
    (s.status.ops64 = true → Accessible s va 8 false pa attr → isCacheable attr = true →
      ∃ t, exec (.lld base rt offset) s = .next t ∧ Advanced s t ∧ t.reg rt = (if rt = 0 then 0 else s.memRead pa 8) ∧
        SameRegsBut s t rt ∧ t.llBit = true ∧ t.linkAddr = pa ∧
        t.cp0 = { s.cp0 with llAddr := pa.extractLsb' 4 32 } ∧ t.tlb = s.tlb ∧ SameHiLo s t ∧ SameFpRegs s t ∧
        t.fcr31 = s.fcr31 ∧ SameMemory s t ∧ SameWorld s t) ∧
    (s.status.ops64 = true → Accessible s va 8 false pa attr → isCacheable attr = false →
      exec (.lld base rt offset) s = .refused .llUncached)

/-- The aligned stores write the low bytes of rt at the physical address and nothing else (40_load_store.md R318;
40_load_store.md R319; 40_load_store.md R320; 40_load_store.md R321; 20_memory.md R101). -/
def Obligations.AlignedStores : Prop :=
  ∀ (s : State) (base rt : RegNum) (offset : BitVec 16) (pa : PAddr) (attr : CacheAttr), s.Canonical →
    let va := s.reg base + offset.signExtend 64
    (Accessible s va 1 true pa attr → Stores (.sb base rt offset) s pa 1 (s.reg rt)) ∧
    (Accessible s va 2 true pa attr → Stores (.sh base rt offset) s pa 2 (s.reg rt)) ∧
    (Accessible s va 4 true pa attr → Stores (.sw base rt offset) s pa 4 (s.reg rt)) ∧
    (s.status.ops64 = true → Accessible s va 8 true pa attr → Stores (.sd base rt offset) s pa 8 (s.reg rt))

/-- SWL, SWR, SDL and SDR write the addressed part of rt and nothing else (40_load_store.md R322; 40_load_store.md
R323; 40_load_store.md R324; 40_load_store.md R325). -/
def Obligations.LeftRightStores : Prop :=
  ∀ (s : State) (base rt : RegNum) (offset : BitVec 16) (pa : PAddr) (attr : CacheAttr), s.Canonical →
    let va := s.reg base + offset.signExtend 64
    Accessible s va 1 true pa attr →
    let byte := if s.pins.bigEndian then 3 - va.toNat % 4 else va.toNat % 4
    let byte8 := if s.pins.bigEndian then 7 - va.toNat % 8 else va.toNat % 8
    Stores (.swl base rt offset) s (s.leftStoreBase pa (byte + 1)) (byte + 1)
      (((s.reg rt).setWidth 32 >>> (24 - 8 * byte)).setWidth 64) ∧
    Stores (.swr base rt offset) s (s.rightStoreBase pa (4 - byte)) (4 - byte) (s.reg rt) ∧
    (s.status.ops64 = true →
      Stores (.sdl base rt offset) s (s.leftStoreBase pa (byte8 + 1)) (byte8 + 1)
        (s.reg rt >>> (56 - 8 * byte8)) ∧
      Stores (.sdr base rt offset) s (s.rightStoreBase pa (8 - byte8)) (8 - byte8) (s.reg rt))

/-- SC and SCD store and answer 1 with the LL bit set, answer 0 and store nothing without it (40_load_store.md R328;
40_load_store.md R329; 40_load_store.md R330; 20_memory.md R130). The refusal (log 25), the free outcome after
another access (log 26) and the order of checks with the LL bit 0 (log 27) are the model's. -/
def Obligations.StoreConditional : Prop :=
  ∀ (s : State) (base rt : RegNum) (offset : BitVec 16) (pa : PAddr) (attr : CacheAttr),
    let va := s.reg base + offset.signExtend 64
    (s.Canonical →
    (s.dataAddr va 4 true = .ok (pa, attr) →
      (s.llBit = false → Computes (.sc base rt offset) s rt 0) ∧
      (s.llBit = true → s.linkAddr ≠ pa → exec (.sc base rt offset) s = .refused .scAddressMismatch) ∧
      (s.llBit = true → s.linkAddr = pa → s.llDisturbed = true → (s.free 0).getLsbD 0 = false →
        Computes (.sc base rt offset) s rt 0) ∧
      (s.llBit = true → s.linkAddr = pa → (s.llDisturbed = false ∨ (s.free 0).getLsbD 0 = true) →
        s.accessFault pa attr true = none →
        ∃ t, exec (.sc base rt offset) s = .next t ∧ Advanced s t ∧ StoreEffect s t pa.toNat 4 (s.reg rt) rt 1 ∧
          t.llDisturbed = true)) ∧
    (s.status.ops64 = true → s.dataAddr va 8 true = .ok (pa, attr) →
      (s.llBit = false → Computes (.scd base rt offset) s rt 0) ∧
      (s.llBit = true → s.linkAddr ≠ pa → exec (.scd base rt offset) s = .refused .scAddressMismatch) ∧
      (s.llBit = true → s.linkAddr = pa → s.llDisturbed = true → (s.free 0).getLsbD 0 = false →
        Computes (.scd base rt offset) s rt 0) ∧
      (s.llBit = true → s.linkAddr = pa → (s.llDisturbed = false ∨ (s.free 0).getLsbD 0 = true) →
        s.accessFault pa attr true = none →
        ∃ t, exec (.scd base rt offset) s = .next t ∧ Advanced s t ∧ StoreEffect s t pa.toNat 8 (s.reg rt) rt 1 ∧
          t.llDisturbed = true))) ∧
    (∀ (i : Instr) (t : State), s.raised = false → exec i s = .next t →
      let Accesses : Prop := ∃ a b c o, i ∈ (
        [.lb a b o, .lbu a b o, .lh a b o, .lhu a b o, .lw a b o, .lwu a b o, .ld a b o, .lwl a b o, .lwr a b o,
         .ldl a b o, .ldr a b o, .sb a b o, .sh a b o, .sw a b o, .sd a b o, .swl a b o, .swr a b o, .sdl a b o,
         .sdr a b o, .lwc1 a b o, .ldc1 a b o, .swc1 a b o, .sdc1 a b o, .lwxc1 a b c, .ldxc1 a b c,
         .luxc1 a b c, .swxc1 a b c, .sdxc1 a b c, .suxc1 a b c] : List Instr)
      let Links : Prop := ∃ a b o, i ∈ ([.ll a b o, .lld a b o] : List Instr)
      let Conditional : Prop := ∃ a b o, i ∈ ([.sc a b o, .scd a b o] : List Instr)
      (Accesses → t.raised = false → t.llDisturbed = true) ∧ (Links → t.raised = false → t.llDisturbed = false) ∧
      (t.raised = true ∨ ¬ Accesses ∧ ¬ Links ∧ ¬ Conditional → t.llDisturbed = s.llDisturbed))

/-- A CPU load or store takes the exception of its address, or else the bus error or watch of its access
(40_load_store.md R301; 40_load_store.md R303; 40_load_store.md R328; 40_load_store.md R329; 20_memory.md R121;
60_exceptions.md R1010; 60_exceptions.md R1019; 60_exceptions.md R1030; 10_state.md R28). The address exception
of SC and SCD with the LL bit 0 follows R328 against a clause of R1011 (log 27); the bus error of a store is log
16, the reserved attribute codes 0 and 6 as uncached item U12 (log 14), the watch masked by EXL the spec's
decision D53 (log 56), the layout of the watch registers item G5 (log 49). -/
def Obligations.DataAccessExceptions : Prop :=
  ∀ (s : State) (base rt : RegNum) (offset : BitVec 16),
    let va := s.reg base + offset.signExtend 64
    TakesAccessException (.lb base rt offset) s va 1 false ∧
    TakesAccessException (.lbu base rt offset) s va 1 false ∧
    TakesAccessException (.lh base rt offset) s va 2 false ∧
    TakesAccessException (.lhu base rt offset) s va 2 false ∧
    TakesAccessException (.lw base rt offset) s va 4 false ∧
    (s.status.ops64 = true → TakesAccessException (.lwu base rt offset) s va 4 false) ∧
    (s.status.ops64 = true → TakesAccessException (.ld base rt offset) s va 8 false) ∧
    TakesAccessException (.lwl base rt offset) s va 1 false ∧
    TakesAccessException (.lwr base rt offset) s va 1 false ∧
    (s.status.ops64 = true → TakesAccessException (.ldl base rt offset) s va 1 false) ∧
    (s.status.ops64 = true → TakesAccessException (.ldr base rt offset) s va 1 false) ∧
    TakesAccessException (.ll base rt offset) s va 4 false ∧
    (s.status.ops64 = true → TakesAccessException (.lld base rt offset) s va 8 false) ∧
    TakesAccessException (.sb base rt offset) s va 1 true ∧
    TakesAccessException (.sh base rt offset) s va 2 true ∧
    TakesAccessException (.sw base rt offset) s va 4 true ∧
    (s.status.ops64 = true → TakesAccessException (.sd base rt offset) s va 8 true) ∧
    TakesAccessException (.swl base rt offset) s va 1 true ∧
    TakesAccessException (.swr base rt offset) s va 1 true ∧
    (s.status.ops64 = true → TakesAccessException (.sdl base rt offset) s va 1 true) ∧
    (s.status.ops64 = true → TakesAccessException (.sdr base rt offset) s va 1 true) ∧
    (∀ e, s.dataAddr va 4 true = .error e → Raises (.sc base rt offset) s e) ∧
    (s.status.ops64 = true → ∀ e, s.dataAddr va 8 true = .error e → Raises (.scd base rt offset) s e) ∧
    (∀ pa attr e, s.dataAddr va 4 true = .ok (pa, attr) → s.llBit = true → s.linkAddr = pa →
      s.accessFault pa attr true = some e →
      (s.llDisturbed = false → Raises (.sc base rt offset) s e) ∧
      (s.llDisturbed = true → (s.free 0).getLsbD 0 = true →
        exec (.sc base rt offset) s = .next (takeException e (s.drew 1)))) ∧
    (s.status.ops64 = true → ∀ pa attr e, s.dataAddr va 8 true = .ok (pa, attr) → s.llBit = true → s.linkAddr = pa →
      s.accessFault pa attr true = some e →
      (s.llDisturbed = false → Raises (.scd base rt offset) s e) ∧
      (s.llDisturbed = true → (s.free 0).getLsbD 0 = true →
        exec (.scd base rt offset) s = .next (takeException e (s.drew 1)))) ∧
    (∀ (pa : PAddr) (attr : CacheAttr) (store : Bool) (e : Exc),
      let BusError : Prop := s.inputs.busErrData = true ∧ (store = false ∨ attr ∈ ([1, 3, 4, 5] : List CacheAttr))
      let Watched : Prop := (∀ j, 3 ≤ j → j < 36 → pa.getLsbD j =
          if j < 32 then s.cp0.watchLo.paddr0.getLsbD (j - 3) else s.cp0.watchHi.getLsbD (j - 32)) ∧
        (if store then s.cp0.watchLo.w = true else s.cp0.watchLo.r = true)
      s.accessFault pa attr store = some e ↔
        BusError ∧ e = .busErrorData ∨ ¬ BusError ∧ Watched ∧ s.status.exl = false ∧ e = .watch)

/-- Misaligned and illegal addresses, and no others, are address errors, before any translation (20_memory.md R103;
20_memory.md R105; 20_memory.md R106; 20_memory.md R111; 20_memory.md R112). That an address that is no sign-
extended word is an address error in every segment is the spec's decision D31 (log 13). -/
def Obligations.AddressCheck : Prop :=
  ∀ s : State,
    let Legal (va : Dword) : Prop := let a := va.toNat
      let csseg : Prop := 0xFFFFFFFFC0000000 ≤ a ∧ a < 0xFFFFFFFFE0000000
      let xsseg : Prop := 0x4000000000000000 ≤ a ∧ a < 0x4000010000000000
      match s.status.mode, s.status.addr64 with
      | .user, false => a < 0x80000000
      | .user, true => a < 0x10000000000
      | .supervisor, false => a < 0x80000000 ∨ csseg
      | .supervisor, true => a < 0x10000000000 ∨ xsseg ∨ csseg
      | .kernel, false => a < 0x80000000 ∨ 0xFFFFFFFF80000000 ≤ a
      | .kernel, true => a < 0x10000000000 ∨ xsseg ∨
          (0x8000000000000000 ≤ a ∧ a < 0xC000000000000000 ∧ a % 0x800000000000000 < 0x1000000000) ∨
          (0xC000000000000000 ≤ a ∧ a < 0xC00000FF80000000) ∨ 0xFFFFFFFF80000000 ≤ a
    (∀ (va : Dword) (n : Nat) (store : Bool),
      (va.toNat % n ≠ 0 ∨ ¬ Legal va → s.dataAddr va n store = .error (.addressErrorData va store)) ∧
      (va.toNat % n = 0 → Legal va → ∀ e, s.dataAddr va n store = .error e →
        (∃ m, e = .tlbRefill va store m) ∨ e = .tlbInvalid va store ∨ (store = true ∧ e = .tlbModified va))) ∧
    (s.pc.toNat % 4 ≠ 0 ∨ ¬ Legal s.pc → s.instrAddr = .error (.addressErrorFetch s.pc)) ∧
    (s.pc.toNat % 4 = 0 → Legal s.pc → ∀ e, s.instrAddr = .error e →
      (∃ m, e = .tlbRefill s.pc false m) ∨ e = .tlbInvalid s.pc false)

/-- kseg0, kseg1 and xkphys map to physical memory, kuseg too while ERL is set, and nothing else is unmapped
(20_memory.md R105; 20_memory.md R108; 20_memory.md R109; 20_memory.md R110; 20_memory.md R118). That xkuseg
addresses from 0x80000000 on stay mapped while ERL is set is the spec's decision D36 (log 62). -/
def Obligations.UnmappedSegments : Prop :=
  ∀ (s : State) (va : Dword) (n : Nat) (store : Bool),
    (s.status.mode = .kernel → va.toNat % n = 0 →
      (0xFFFFFFFF80000000 ≤ va.toNat → va.toNat < 0xFFFFFFFFA0000000 →
        s.dataAddr va n store = .ok (BitVec.ofNat 36 (va.toNat - 0xFFFFFFFF80000000), s.cp0.config.k0)) ∧
      (0xFFFFFFFFA0000000 ≤ va.toNat → va.toNat < 0xFFFFFFFFC0000000 →
        s.dataAddr va n store = .ok (BitVec.ofNat 36 (va.toNat - 0xFFFFFFFFA0000000), 2)) ∧
      (s.status.erl = true → va.toNat < 0x80000000 → s.dataAddr va n store = .ok (BitVec.ofNat 36 va.toNat, 2)) ∧
      (s.status.addr64 = true → 0x8000000000000000 ≤ va.toNat → va.toNat < 0xC000000000000000 →
        va.toNat % 2 ^ 59 < 2 ^ 36 →
        s.dataAddr va n store =
          .ok (BitVec.ofNat 36 (va.toNat % if s.pins.busMode64 then 2 ^ 36 else 2 ^ 32),
            BitVec.ofNat 3 (va.toNat / 2 ^ 59 % 8)))) ∧
    (segmentOf s.status s.cp0.config.k0 va = .mapped ↔ s.status.mode ≠ .kernel ∨
      ¬ (0xFFFFFFFF80000000 ≤ va.toNat ∧ va.toNat < 0xFFFFFFFFC0000000) ∧
      ¬ (s.status.erl = true ∧ va.toNat < 0x80000000) ∧
      ¬ (s.status.addr64 = true ∧ 0x8000000000000000 ≤ va.toNat ∧ va.toNat < 0xC000000000000000))

/-- A mapped address is translated by the one matching TLB entry, or raises refill, invalid or modified; a fetch
like a load (20_memory.md R111; 20_memory.md R112; 20_memory.md R115; 20_memory.md R116; 20_memory.md R117;
20_memory.md R118; 60_exceptions.md R1007; 60_exceptions.md R1008). TLB refill with TS on several matches is the
spec's decision D34 (log 63); the bit that selects the half is item G16 (log 49); TLB refill, invalid and
modified are taken as TakingAnException says. -/
def Obligations.TlbTranslation : Prop :=
  (∀ (s : State) (r : BitVec 2) (vpn2 : BitVec 27), (s.tlbHits r vpn2).Nodup ∧
    ∀ (e : TlbEntry) (k : Nat), (e, k) ∈ s.tlbHits r vpn2 ↔
      s.tlb[k]? = some e ∧ (e.g = true ∨ e.asid = s.cp0.entryHi.asid) ∧ (s.status.addr64 = true → e.r = r) ∧
      ∀ j < 27, (s.status.addr64 = true ∨ j < 19) → e.mask.getLsbD j = false → e.vpn2.getLsbD j = vpn2.getLsbD j) ∧
  (∀ (s : State) (va : Dword) (n : Nat) (store : Bool), va.toNat % n = 0 → addrLegal s.status va = true →
    segmentOf s.status s.cp0.config.k0 va = .mapped →
    let hits := s.tlbHits (va.extractLsb' 62 2) (va.extractLsb' 13 27)
    (hits = [] → s.dataAddr va n store = .error (.tlbRefill va store false)) ∧
    (2 ≤ hits.length → s.dataAddr va n store = .error (.tlbRefill va store true)) ∧
    (∀ (e : TlbEntry) (k : Nat), hits = [(e, k)] →
      ((e.half va).v = false → s.dataAddr va n store = .error (.tlbInvalid va store)) ∧
      ((e.half va).v = true → store = true → (e.half va).d = false →
        s.dataAddr va n store = .error (.tlbModified va)) ∧
      ((e.half va).v = true → (store = false ∨ (e.half va).d = true) →
        ∃ pa, s.dataAddr va n store = .ok (pa, (e.half va).c) ∧ ∀ i < 36, pa.getLsbD i =
          if 32 ≤ i ∧ s.pins.busMode64 = false then false
          else if i < 12 then va.getLsbD i
          else if e.mask.getLsbD (i - 12) then va.getLsbD i else (e.half va).pfn.getLsbD (i - 12)) ∧
      (∀ j ≤ 18, e.mask = BitVec.ofNat 18 (2 ^ j - 1) → e.half va =
        if va.getLsbD (12 + j) then { pfn := e.pfn1, c := e.c1, d := e.d1, v := e.v1 }
        else { pfn := e.pfn0, c := e.c0, d := e.d0, v := e.v0 }))) ∧
  (∀ s : State,
    (∀ p, s.instrAddr = .ok p ↔ s.dataAddr s.pc 4 false = .ok p) ∧
    (∀ multiple, s.instrAddr = .error (.tlbRefill s.pc false multiple) ↔
      s.dataAddr s.pc 4 false = .error (.tlbRefill s.pc false multiple)) ∧
    (s.instrAddr = .error (.tlbInvalid s.pc false) ↔ s.dataAddr s.pc 4 false = .error (.tlbInvalid s.pc false)))

/-- Branches test all 64 bits, keep or nullify their delay slot, and link always (43_branch_jump.md R601 to R604;
43_branch_jump.md R608 to R623). -/
def Obligations.ConditionalBranches : Prop :=
  ∀ (s : State) (rs rt : RegNum) (offset : BitVec 16), s.inDelay = false →
    Branches (.beq rs rt offset) s (s.reg rs = s.reg rt) false offset 0 ∧
    Branches (.bne rs rt offset) s (s.reg rs ≠ s.reg rt) false offset 0 ∧
    Branches (.blez rs offset) s ((s.reg rs).toInt ≤ 0) false offset 0 ∧
    Branches (.bgtz rs offset) s (0 < (s.reg rs).toInt) false offset 0 ∧
    Branches (.bltz rs offset) s ((s.reg rs).toInt < 0) false offset 0 ∧
    Branches (.bgez rs offset) s (0 ≤ (s.reg rs).toInt) false offset 0 ∧
    Branches (.bltzal rs offset) s ((s.reg rs).toInt < 0) false offset 31 ∧
    Branches (.bgezal rs offset) s (0 ≤ (s.reg rs).toInt) false offset 31 ∧
    Branches (.beql rs rt offset) s (s.reg rs = s.reg rt) true offset 0 ∧
    Branches (.bnel rs rt offset) s (s.reg rs ≠ s.reg rt) true offset 0 ∧
    Branches (.blezl rs offset) s ((s.reg rs).toInt ≤ 0) true offset 0 ∧
    Branches (.bgtzl rs offset) s (0 < (s.reg rs).toInt) true offset 0 ∧
    Branches (.bltzl rs offset) s ((s.reg rs).toInt < 0) true offset 0 ∧
    Branches (.bgezl rs offset) s (0 ≤ (s.reg rs).toInt) true offset 0 ∧
    Branches (.bltzall rs offset) s ((s.reg rs).toInt < 0) true offset 31 ∧
    Branches (.bgezall rs offset) s (0 ≤ (s.reg rs).toInt) true offset 31

/-- J, JAL, JR and JALR continue at their target after the delay slot (43_branch_jump.md R601; 43_branch_jump.md
R604; 43_branch_jump.md R624; 43_branch_jump.md R625; 43_branch_jump.md R626; 43_branch_jump.md R627). JALR with
rs = rd is the model's reading of item U2 (log 22). -/
def Obligations.JumpInstructions : Prop :=
  ∀ (s : State) (rs rd : RegNum) (target : BitVec 26), s.inDelay = false →
    Jumps (.j target) s ((s.pc + 4) &&& ~~~0xFFFFFFF#64 ||| (target.setWidth 64 <<< 2)) 0 0 ∧
    Jumps (.jal target) s ((s.pc + 4) &&& ~~~0xFFFFFFF#64 ||| (target.setWidth 64 <<< 2)) 31 (s.pc + 8) ∧
    Jumps (.jr rs) s (s.reg rs) 0 0 ∧
    (rs ≠ rd → Jumps (.jalr rs rd) s (s.reg rs) rd (s.pc + 8)) ∧
    (rs = rd → Jumps (.jalr rs rd) s (s.free 1) rd (s.free 0))

/-- A jump, branch or ERET in a branch delay slot is undefined, and the model refuses it (43_branch_jump.md R605;
45_cp0_system.md R731). The refusal is the model's treatment of item U1 (log 23). -/
def Obligations.ControlTransferInDelaySlotStops : Prop :=
  ∀ (s : State) (rs rt rd : RegNum) (cc : BitVec 3) (offset : BitVec 16) (target : BitVec 26), s.inDelay = true →
    (∀ i ∈ (
      [.beq rs rt offset, .bne rs rt offset, .beql rs rt offset, .bnel rs rt offset, .blez rs offset,
       .bgtz rs offset, .blezl rs offset, .bgtzl rs offset, .bltz rs offset, .bgez rs offset, .bltzl rs offset,
       .bgezl rs offset, .bltzal rs offset, .bgezal rs offset, .bltzall rs offset, .bgezall rs offset, .j target,
       .jal target, .jr rs, .jalr rs rd] : List Instr), exec i s = .refused .branchInDelaySlot) ∧
    (s.status.cp0Usable = true → ∀ i ∈ (
      [.bc0f offset, .bc0t offset, .bc0fl offset, .bc0tl offset, .eret] : List Instr),
        exec i s = .refused .branchInDelaySlot) ∧
    (s.status.cu1 = true → (cc = 0 ∨ s.status.mips4 = true) → ∀ i ∈ (
      [.bc1f cc offset, .bc1t cc offset, .bc1fl cc offset, .bc1tl cc offset] : List Instr),
        exec i s = .refused .branchInDelaySlot)

/-- BC0F, BC0T, BC0FL, BC0TL branch on CpCond; BC1F, BC1T, BC1FL, BC1TL on a condition code (43_branch_jump.md R628
to R632; 46_fpu_move_ls.md R818 to R822). -/
def Obligations.ConditionBranches : Prop :=
  ∀ (s : State) (cc : BitVec 3) (offset : BitVec 16), s.inDelay = false →
    (s.status.cp0Usable = true →
      Branches (.bc0f offset) s (!s.inputs.cpCond) false offset 0 ∧
        Branches (.bc0t offset) s s.inputs.cpCond false offset 0 ∧
      Branches (.bc0fl offset) s (!s.inputs.cpCond) true offset 0 ∧
        Branches (.bc0tl offset) s s.inputs.cpCond true offset 0) ∧
    (s.status.cu1 = true → (cc = 0 ∨ s.status.mips4 = true) →
      let b := s.fcr31.cc.getLsbD cc.toNat
      Branches (.bc1f cc offset) s (!b) false offset 0 ∧
      Branches (.bc1t cc offset) s b false offset 0 ∧
      Branches (.bc1fl cc offset) s (!b) true offset 0 ∧
      Branches (.bc1tl cc offset) s b true offset 0)

/-- SYNC, SSNOP, PREF and PREFX change nothing; CACHE acts as on a machine without caches (44_special_trap.md R652;
44_special_trap.md R653; 44_special_trap.md R654; 46_fpu_move_ls.md R811; 45_cp0_system.md R740;
45_cp0_system.md R741; 45_cp0_system.md R742; 46_fpu_move_ls.md R833). That PREFX does nothing also where the
sum differs from the base in bits 63:62, which R833 and item U22 call undefined, is the model's choice (log 36),
attribute codes 0 and 6 as uncached its treatment of item U12 (log 14). The refusals are the model's treatment
of item U15 (log 30), the flat memory its choice (log 15), the bus error on 14, 1C and 1D alone (D37) and its
code DBE its choice too (log 16). -/
def Obligations.NoOperationsAndCache : Prop :=
  ∀ (s : State) (base index : RegNum) (hint stype op : BitVec 5) (offset : BitVec 16) (pa : PAddr) (attr : CacheAttr),
    let va := s.reg base + offset.signExtend 64
    let listed : List (BitVec 5) := [0x00, 0x01, 0x04, 0x05, 0x08, 0x09, 0x0D, 0x10, 0x11, 0x14, 0x15, 0x19, 0x1C,
      0x1D]
    DoesNothing (.sync stype) s ∧ DoesNothing .ssnop s ∧
    (s.status.mips4 = true → DoesNothing (.pref base hint offset) s) ∧
    (s.status.mips4 = true → s.status.cu1 = true → DoesNothing (.prefx base index hint) s) ∧
    (s.status.cp0Usable = true → ∀ e, s.dataAddr va 1 false = .error e → Raises (.cache base op offset) s e) ∧
    (s.status.cp0Usable = true → s.dataAddr va 1 false = .ok (pa, attr) →
      (op ∉ listed → exec (.cache base op offset) s = .refused .cacheOpUndefined) ∧
      (op ∈ listed → isCacheable attr = false → exec (.cache base op offset) s = .refused .cacheOnUncached) ∧
      (op ∈ listed → isCacheable attr = true →
        (s.inputs.busErrData = true → op ∈ [0x14, 0x1C, 0x1D] → Raises (.cache base op offset) s .busErrorData) ∧
        (s.inputs.busErrData = false ∨ op ∉ [0x14, 0x1C, 0x1D] →
          (op ∉ [0x04, 0x05, 0x0D] → DoesNothing (.cache base op offset) s) ∧
          (op ∈ [0x04, 0x05] →
            ∃ lo p, SetsCp0 (.cache base op offset) s { s.cp0 with tagLo := lo, parityError := p }) ∧
          (op = 0x0D → s.Canonical → ∃ t, exec (.cache base op offset) s = .next t ∧ Advanced s t ∧ SameRegs s t ∧
            SameHiLo s t ∧ SameFpRegs s t ∧ t.fcr31 = s.fcr31 ∧ SameSystem s t ∧
            SameMemoryBut s t (32 * (pa.toNat / 32)) 32))))

/-- MFC0 and DMFC0 copy a CP0 register to rt and change nothing else; the fields of the CP0 registers
(45_cp0_system.md R701; 45_cp0_system.md R702; 45_cp0_system.md R704; 10_state.md R11 to R20; 10_state.md R23 to
R34). The draw of Random (log 10, log 11) and the free values (log 32) are the model's; the places of many
fields are the spec's general knowledge, the watch registers item G5 and the performance control word item G6
(log 49), those of Index, EntryHi and Cache Error its decisions D20, D22 and D23 (log 67, log 74); words with
number 25 are those of MFPC and MFPS (R701); PRId is two constants with no body (log 47). -/
def Obligations.Cp0Reads : Prop :=
  (∀ (s : State) (rt rd : RegNum), s.status.cp0Usable = true →
    (rd ≠ 1 → isReservedCp0 rd = false → Computes (.mfc0 rt rd) s rt (sext (low (s.readCp0 rd)))) ∧
    (isReservedCp0 rd = true → ∃ v, Computes (.mfc0 rt rd) s rt v) ∧
    (∃ t r, exec (.mfc0 rt 1) s = .next t ∧ Advanced s t ∧ t.reg rt = (if rt = 0 then 0 else BitVec.ofNat 64 r) ∧
      r ≤ 47 ∧ (s.cp0.wired.toNat ≤ 47 → s.cp0.wired.toNat ≤ r) ∧
      t.cp0 = { s.cp0 with random := BitVec.ofNat 6 r } ∧ SameRegsBut s t rt ∧ SameHiLo s t ∧ SameFpRegs s t ∧
      t.fcr31 = s.fcr31 ∧ t.tlb = s.tlb ∧ SameLink s t ∧ SameWorld s t ∧ SameMemory s t) ∧
    (s.status.ops64 = true →
      (rd ∈ [2, 3, 4, 8, 10, 14, 20, 30] → Computes (.dmfc0 rt rd) s rt (s.readCp0 rd)) ∧
      (rd ∉ [2, 3, 4, 8, 10, 14, 20, 30] → ∃ v, Computes (.dmfc0 rt rd) s rt v))) ∧
  (∀ s : State, let c := s.cp0; let flag := BitVec.ofBool
    s.readCp0 0 = 0#32 ++ flag c.index.p ++ 0#25 ++ c.index.index ∧
    s.readCp0 1 = 0#58 ++ c.random ∧
    (∀ p ∈ [(2, c.entryLo0), (3, c.entryLo1)],
      s.readCp0 p.1 = 0#34 ++ p.2.pfn ++ p.2.c ++ flag p.2.d ++ flag p.2.v ++ flag p.2.g) ∧
    s.readCp0 4 = c.context.pteBase ++ c.context.badVpn2 ++ 0#4 ∧
    s.readCp0 5 = 0#33 ++ c.pageMask ++ 0#13 ∧
    s.readCp0 6 = 0#58 ++ c.wired ∧
    s.readCp0 8 = c.badVAddr ∧
    s.readCp0 9 = 0#32 ++ c.count ∧
    s.readCp0 10 = c.entryHi.r ++ c.entryHi.fill ++ c.entryHi.vpn2 ++ 0#5 ++ c.entryHi.asid ∧
    s.readCp0 11 = 0#32 ++ c.compare ∧
    s.readCp0 13 =
      0#32 ++ flag c.cause.bd ++ 0#1 ++ c.cause.ce ++ 0#12 ++ s.causeIp ++ 0#1 ++ c.cause.excCode ++ 0#2 ∧
    s.readCp0 14 = c.epc ∧
    s.readCp0 15 = 0#48 ++ Config.pridImp ++ Config.pridRev ∧
    s.readCp0 16 =
      0#33 ++ s.pins.divMode ++ c.config.ep ++ c.config.em ++ 0b11#2 ++
        (if s.pins.busMode64 then 0b00#2 else 0b01#2) ++
        0b10#2 ++ flag s.pins.bigEndian ++ 0b110#3 ++ 0b011#3 ++ 0b011#3 ++ 0b110#3 ++ c.config.k0 ∧
    s.readCp0 17 = 0#32 ++ c.llAddr ∧
    s.readCp0 18 = 0#32 ++ c.watchLo.paddr0 ++ 0#1 ++ flag c.watchLo.r ++ flag c.watchLo.w ∧
    s.readCp0 19 = 0#60 ++ c.watchHi ∧
    s.readCp0 20 = c.xcontext.pteBase ++ c.xcontext.r ++ c.xcontext.badVpn2 ++ 0#4 ∧
    (∀ p : PerfControl, p.toWord = 0#23 ++ p.event ++ flag p.ie ++ flag p.u ++ flag p.s ++ flag p.k ++ flag p.exl) ∧
    s.readCp0 25 = 0#32 ++ c.perfControl0.toWord ∧
    s.readCp0 26 = 0#56 ++ c.parityError ∧
    s.readCp0 27 = 0#32 ++ c.cacheError ++ 0#25 ∧
    s.readCp0 28 = 0#32 ++ c.tagLo ∧ s.readCp0 29 = 0#32 ++ c.tagHi ∧
    s.readCp0 30 = c.errorEpc)

/-- MTC0 and DMTC0 write the writable bits of one CP0 register and nothing else (45_cp0_system.md R703;
45_cp0_system.md R705; 45_cp0_system.md R710; 10_state.md R16; 60_exceptions.md R1051). The refusal is the
model's treatment of item U17 (log 32); the bits of Index and Cache Error are the spec's decisions D20 and D23
(log 67), other layouts its general knowledge (log 49); that Wired above 47 (log 11) and any pattern of PageMask
(log 28) are stored is the model's choice. -/
def Obligations.Cp0Writes : Prop :=
  ∀ (s : State) (rt rd : RegNum), s.status.cp0Usable = true →
    (∃ t, exec (.mtc0 rt rd) s = .next t ∧ Advanced s t ∧ Cp0WriteEffect s t rd (s.reg rt)) ∧
    (s.status.ops64 = true →
      (rd ∈ [2, 3, 4, 8, 10, 14, 20, 30] ∨ isReservedCp0 rd = true →
        ∃ t, exec (.dmtc0 rt rd) s = .next t ∧ Advanced s t ∧ Cp0WriteEffect s t rd (s.reg rt)) ∧
      (rd ∉ [2, 3, 4, 8, 10, 14, 20, 30] → isReservedCp0 rd = false →
        exec (.dmtc0 rt rd) s = .refused .dmtc0To32Bit))

/-- MFPC, MTPC, MFPS and MTPS move performance registers 0 and 1 (45_cp0_system.md R706; 45_cp0_system.md R707;
45_cp0_system.md R708; 45_cp0_system.md R709; 10_state.md R30). What a register number above 1 does is the
model's reading of item U18 (log 33); the nine bits that MTPS writes are the layout of item G6, general
knowledge (log 49). -/
def Obligations.PerformanceRegisterMoves : Prop :=
  ∀ (s : State) (rt : RegNum) (reg : BitVec 5), s.status.cp0Usable = true →
    Computes (.mfpc rt 0) s rt (sext s.cp0.perfCounter0) ∧ Computes (.mfpc rt 1) s rt (sext s.cp0.perfCounter1) ∧
    Computes (.mfps rt 0) s rt (sext s.cp0.perfControl0.toWord) ∧
    Computes (.mfps rt 1) s rt (sext s.cp0.perfControl1.toWord) ∧
    SetsCp0 (.mtpc rt 0) s { s.cp0 with perfCounter0 := low (s.reg rt) } ∧
    SetsCp0 (.mtpc rt 1) s { s.cp0 with perfCounter1 := low (s.reg rt) } ∧
    (∃ c : PerfControl, c.toWord = low (s.reg rt) &&& 0x1FF ∧
      SetsCp0 (.mtps rt 0) s { s.cp0 with perfControl0 := c } ∧
      SetsCp0 (.mtps rt 1) s { s.cp0 with perfControl1 := c }) ∧
    (reg ≠ 0 → reg ≠ 1 → (∃ v, Computes (.mfpc rt reg) s rt v) ∧ (∃ v, Computes (.mfps rt reg) s rt v) ∧
      DoesNothing (.mtpc rt reg) s ∧ DoesNothing (.mtps rt reg) s)

/-- TLBP, TLBR, TLBWI and TLBWR probe, read and write entries of the TLB (45_cp0_system.md R715; 45_cp0_system.md
R716; 45_cp0_system.md R717; 45_cp0_system.md R718; 45_cp0_system.md R719; 10_state.md R15; 10_state.md R19).
The refusals are the model's treatment of items U14 (log 29) and U10 (log 28); the draw by TLBWR, its range and
that Random becomes the drawn value are its choices (log 10, log 11, with the spec's D21); TLBP with several
matches is the spec's decision D42 (log 40), EntryHi after TLBR in 32-bit addressing mode its D22 (log 74), and
that a TLBP with several matches keeps EntryLo0 and EntryLo1 the model's choice (log 76). -/
def Obligations.TlbInstructions : Prop :=
  (∀ h : EntryHi, h.toDword = h.r ++ h.fill ++ h.vpn2 ++ 0#5 ++ h.asid) ∧
  (∀ m : BitVec 18, legalMask m = true ↔ m ∈ ([0b000000000000000000, 0b000000000000000011, 0b000000000000001111,
    0b000000000000111111, 0b000000000011111111, 0b000000001111111111, 0b000000111111111111, 0b000011111111111111,
    0b001111111111111111, 0b111111111111111111] : List (BitVec 18))) ∧
  (∀ s : State, s.status.cp0Usable = true →
    let hits := s.tlbHits s.cp0.entryHi.r s.cp0.entryHi.vpn2; let c := s.cp0
    let made : TlbEntry :=
      { mask := c.pageMask, r := c.entryHi.r, vpn2 := c.entryHi.vpn2 &&& ~~~(0#9 ++ c.pageMask)
        g := c.entryLo0.g && c.entryLo1.g, asid := c.entryHi.asid
        pfn0 := c.entryLo0.pfn, c0 := c.entryLo0.c, d0 := c.entryLo0.d, v0 := c.entryLo0.v
        pfn1 := c.entryLo1.pfn, c1 := c.entryLo1.c, d1 := c.entryLo1.d, v1 := c.entryLo1.v }
    (hits = [] → ∃ k, SetsCp0 .tlbp s { c with index := { p := true, index := k } }) ∧
    (∀ e k, hits = [(e, k)] → k ≤ 47 ∧
      SetsCp0 .tlbp s { c with index := { p := false, index := BitVec.ofNat 6 k } }) ∧
    (2 ≤ hits.length → Raises .tlbp s .tlbpMultiple ∧ (takeException .tlbpMultiple s).status.ts = true) ∧
    (∀ e, s.tlb[c.index.index.toNat]? = some e → ∃ h : EntryHi, h.asid = e.asid ∧
      (s.status.addr64 = true → h.r = e.r ∧ h.fill = 0 ∧ h.vpn2 = e.vpn2 &&& ~~~(0#9 ++ e.mask)) ∧
      (s.status.addr64 = false → let v := (e.vpn2 &&& ~~~(0#9 ++ e.mask)).setWidth 19
        h.toDword.extractLsb' 13 19 = v ∧ h.toDword.extractLsb' 32 32 = if v.msb then BitVec.allOnes 32 else 0) ∧
      SetsCp0 .tlbr s { c with
        pageMask := e.mask, entryHi := h
        entryLo0 := { pfn := e.pfn0, c := e.c0, d := e.d0, v := e.v0, g := e.g }
        entryLo1 := { pfn := e.pfn1, c := e.c1, d := e.d1, v := e.v1, g := e.g } }) ∧
    (48 ≤ c.index.index.toNat → exec .tlbr s = .refused .tlbIndexInvalid ∧
      exec .tlbwi s = .refused .tlbIndexInvalid) ∧
    (legalMask c.pageMask = false →
      exec .tlbwr s = .refused .pageMaskIllegal ∧
      (c.index.index.toNat ≤ 47 → exec .tlbwi s = .refused .pageMaskIllegal)) ∧
    (legalMask c.pageMask = true →
      (c.index.index.toNat ≤ 47 →
        ∃ t, exec .tlbwi s = .next t ∧ Advanced s t ∧ TlbEffect s t c.index.index.toNat made c) ∧
      (∃ t k, k ≤ 47 ∧ (c.wired.toNat ≤ 47 → c.wired.toNat ≤ k) ∧ exec .tlbwr s = .next t ∧ Advanced s t ∧
        TlbEffect s t k made { c with random := BitVec.ofNat 6 k })))

/-- ERET returns to ErrorEPC or EPC and clears ERL or EXL and the LL bit; WAIT enters standby (45_cp0_system.md
R730; 45_cp0_system.md R735; 60_exceptions.md R1005). The fault is the model's treatment of item U16 (log 31). -/
def Obligations.ReturnAndStandby : Prop :=
  ∀ (s : State) (code : BitVec 19), s.status.cp0Usable = true →
    (s.inDelay = false →
      ∃ t, exec .eret s = .next t ∧ t.llBit = false ∧ t.linkAddr = s.linkAddr ∧
        (if s.status.erl then
          ContinuesAt t s.cp0.errorEpc (s.cp0.errorEpc + 4) false ∧
            t.cp0 = { s.cp0 with status := { s.status with erl := false } }
        else
          ContinuesAt t s.cp0.epc (s.cp0.epc + 4) false ∧
            t.cp0 = { s.cp0 with status := { s.status with exl := false } }) ∧
        SameRegs s t ∧ SameHiLo s t ∧ SameFpRegs s t ∧ t.fcr31 = s.fcr31 ∧ t.tlb = s.tlb ∧ SameWorld s t ∧
        SameMemory s t) ∧
    (s.inDelay = false → s.status.exl = false → s.status.erl = false →
      ∃ t, exec (.wait code) s = .next t ∧ Advanced s t ∧ t.runState = .standby ∧ t.cp0 = s.cp0 ∧ t.tlb = s.tlb ∧
        SameLink s t ∧ t.pins = s.pins ∧ t.inputs = s.inputs ∧ t.env = s.env ∧ t.raised = s.raised ∧
        SameRegs s t ∧ SameHiLo s t ∧ SameFpRegs s t ∧ t.fcr31 = s.fcr31 ∧ SameMemory s t) ∧
    ((s.inDelay || s.status.exl || s.status.erl) = true → exec (.wait code) s = .fault .waitUndefined)

/-- Taking an exception saves the restart address and the cause, sets EXL and continues at the vector
(60_exceptions.md R1003; 60_exceptions.md R1004; 60_exceptions.md R1006; 60_exceptions.md R1007;
60_exceptions.md R1008; 60_exceptions.md R1014; 60_exceptions.md R1022; 60_exceptions.md R1053; 10_state.md
R19). BD on a nested exception is the spec's decision D51 (log 54), TLBP with several matches through offset
0x180 its decision D42 (log 40), TS on a refill with several matches its decision D34 (log 63), the upper half
of EntryHi in 32-bit addressing mode its D22 (log 74); the bits of a fetch address error are item U24 (log 38).
That TLBP with several matches counts as event 7 is the model's (log 48), and so is that it keeps EntryLo0 and
EntryLo1 (log 76). -/
def Obligations.TakingAnException : Prop :=
  ∀ (e : Exc) (s : State), let t := takeException e s
    let restart := if s.inDelay then s.pc - 4 else s.pc
    let multiple := match e with | .tlbRefill _ _ m => m | .tlbpMultiple => true | _ => false
    let offset : Dword := match e with
      | .tlbRefill va _ _ => if s.status.exl then 0x180 else
        if (if va < 0x4000000000000000 then s.status.ux
          else if va < 0x8000000000000000 then s.status.sx
          else if 0xFFFFFFFFC0000000 ≤ va ∧ va < 0xFFFFFFFFE0000000 then s.status.sx
          else s.status.kx) then 0x080 else 0x000
      | _ => 0x180
    let u := s.countWhen 7 (match e with | .tlbRefill _ _ _ => true | .tlbpMultiple => true | _ => false)
    t.cp0.cause = { s.cp0.cause with bd := s.inDelay, ce := e.unit, excCode := e.code } ∧
    (∀ n, e = .coprocessorUnusable n → e.unit = n) ∧
    (s.status.exl = true → t.cp0.epc = s.cp0.epc) ∧
    (s.status.exl = false → ∀ j < 64, (j < 40 ∨ 58 < j ∨ s.status.addr64 = false ∨ ∀ va, e ≠ .addressErrorFetch va) →
      t.cp0.epc.getLsbD j = restart.getLsbD j) ∧
    t.status = { s.status with exl := true, ts := multiple || s.status.ts } ∧
    t.pc = (if s.status.bev then 0xFFFFFFFFBFC00200 else 0xFFFFFFFF80000000) + offset ∧ t.npc = t.pc + 4 ∧
    t.inDelay = false ∧ t.runState = .running ∧
    SameRegs s t ∧ SameHiLo s t ∧ SameFpRegs s t ∧ t.fcr31 = s.fcr31 ∧ t.tlb = s.tlb ∧ SameLink s t ∧ SameMemory s t ∧
    t.inputs = u.inputs ∧ t.pins = s.pins ∧ t.env = s.env ∧
    (let other := { u.cp0 with cause := t.cp0.cause, epc := t.cp0.epc, status := t.cp0.status }
     (match e with
      | .tlbRefill .. | .tlbInvalid .. | .tlbModified .. | .addressErrorData .. | .addressErrorFetch .. =>
        t.cp0 = { other with badVAddr := t.cp0.badVAddr, context := t.cp0.context, xcontext := t.cp0.xcontext
                             entryHi := t.cp0.entryHi, entryLo0 := t.cp0.entryLo0, entryLo1 := t.cp0.entryLo1 }
      | _ => t.cp0 = other)) ∧
    (∀ va, (∃ store m, e = .tlbRefill va store m) ∨ (∃ store, e = .tlbInvalid va store) ∨ e = .tlbModified va →
      t.cp0.badVAddr = va ∧ t.cp0.context = { s.cp0.context with badVpn2 := va.extractLsb' 13 19 } ∧
      t.cp0.xcontext = { s.cp0.xcontext with r := va.extractLsb' 62 2, badVpn2 := va.extractLsb' 13 27 } ∧
      t.cp0.entryHi = { s.cp0.entryHi with
        r := va.extractLsb' 62 2, fill := if s.status.addr64 then 0 else va.extractLsb' 40 22
        vpn2 := va.extractLsb' 13 27 } ∧
      (s.status.addr64 = false → va = (va.setWidth 32).signExtend 64 →
        (t.readCp0 10).extractLsb' 32 32 = if va.getLsbD 31 then BitVec.allOnes 32 else 0)) ∧
    (∀ va store, e = .addressErrorData va store → t.cp0.badVAddr = va) ∧
    t.cp0.entryHi.asid = s.cp0.entryHi.asid ∧ t.cp0.context.pteBase = s.cp0.context.pteBase ∧
    t.cp0.xcontext.pteBase = s.cp0.xcontext.pteBase ∧
    (∀ va, e = .addressErrorFetch va → s.status.addr64 = true →
      (s.status.exl = false → ∀ j, 40 ≤ j → j ≤ 58 → t.cp0.epc.getLsbD j = t.cp0.epc.getLsbD 40) ∧
      (s.jrTarget = false → let b := t.cp0.badVAddr
        (∀ j < 64, j < 40 ∨ 58 < j → b.getLsbD j = va.getLsbD j) ∧
        (∀ j, 40 ≤ j → j ≤ 58 → b.getLsbD j = b.getLsbD 40))) ∧
    (∀ va, e = .addressErrorFetch va → s.status.addr64 = false ∨ s.jrTarget = true → t.cp0.badVAddr = va)

/-- Every instruction of an unusable coprocessor raises coprocessor unusable before anything else (30_encoding.md
R215; 45_cp0_system.md R700; 10_state.md R50; 60_exceptions.md R1014). -/
def Obligations.CoprocessorUnusable : Prop :=
  ∀ (i : Instr) (s : State), let op := opOf (encode i)
    (op = 0b010000#6 ∨ op = 0b101111#6 → s.status.cp0Usable = false → Raises i s (.coprocessorUnusable 0)) ∧
    (op = 0b010001#6 ∨ op = 0b010011#6 ∨ op = 0b110001#6 ∨ op = 0b110101#6 ∨ op = 0b111001#6 ∨ op = 0b111101#6 ∨
        op = 0b000000#6 ∧ fnOf (encode i) = 0b000001#6 →
      s.status.cu1 = false → Raises i s (.coprocessorUnusable 1))

/-- The mode is what Status says, and 64-bit and MIPS IV instructions raise where it does not enable them
(10_state.md R8; 10_state.md R9; 10_state.md R21; 10_state.md R22; 30_encoding.md R210; 30_encoding.md R211;
30_encoding.md R217; 45_cp0_system.md R700; 45_cp0_system.md R704; 45_cp0_system.md R705; 47_fpu_arith.md R856).
Which MIPS IV instruction raises which of the two is the spec's decisions D43, D44 and D45 (log 65); KSU = 11 as
user mode is its decision D1 (log 12); the places of most Status bits are its general knowledge (log 49). -/
def Obligations.InstructionsOutsideTheirMode : Prop :=
  (∀ s : State, let st := s.status; let w := s.readCp0 12
    let Kernel : Prop := st.exl = true ∨ st.erl = true ∨ st.ksu = 0b00
    let Supervisor : Prop := st.exl = false ∧ st.erl = false ∧ st.ksu = 0b01
    let User : Prop := st.exl = false ∧ st.erl = false ∧ (st.ksu = 0b10 ∨ st.ksu = 0b11)
    (st.mode = .kernel ↔ Kernel) ∧ (st.mode = .supervisor ↔ Supervisor) ∧ (st.mode = .user ↔ User) ∧
    (st.addr64 = true ↔ Kernel ∧ st.kx = true ∨ Supervisor ∧ st.sx = true ∨ User ∧ st.ux = true) ∧
    (st.ops64 = true ↔ Kernel ∨ Supervisor ∧ st.sx = true ∨ User ∧ st.ux = true) ∧
    (st.mips4 = true ↔ Kernel ∨ Supervisor ∨ User ∧ st.xx = true) ∧
    (st.cp0Usable = true ↔ Kernel ∨ st.cu0 = true) ∧
    (∀ p ∈ ([(31, st.xx), (30, st.cu2), (29, st.cu1), (28, st.cu0), (27, false), (26, st.fr), (25, false),
      (24, st.dme), (23, false), (22, st.bev), (21, st.ts), (20, st.sr), (19, false), (18, st.ch), (17, st.ce),
      (16, st.de), (7, st.kx), (6, st.sx), (5, st.ux), (2, st.erl), (1, st.exl), (0, st.ie)] : List (Nat × Bool)),
      w.getLsbD p.1 = p.2) ∧
    w.extractLsb' 8 8 = st.im ∧ w.extractLsb' 3 2 = st.ksu) ∧
  (∀ (s : State) (a b d w x y z : RegNum) (imm offset : BitVec 16) (sa : BitVec 5) (cc : BitVec 3),
    let Unimplemented (i : Instr) : Prop :=
      exec i s = .next (takeException .floatingPoint (s.setFcr31 { s.fcr31 with cause := 0b100000#6 }))
    (s.status.ops64 = false →
      (∀ i ∈ (
      [.daddi a b imm, .daddiu a b imm, .ldl a b offset, .ldr a b offset, .lld a b offset, .lwu a b offset,
       .ld a b offset, .scd a b offset, .sd a b offset, .sdl a b offset, .sdr a b offset, .dadd a b d,
       .daddu a b d, .dsub a b d, .dsubu a b d, .dsllv a b d, .dsrlv a b d, .dsrav a b d, .dmult a b,
       .dmultu a b, .ddiv a b, .ddivu a b, .dsll b d sa, .dsrl b d sa, .dsra b d sa, .dsll32 b d sa,
       .dsrl32 b d sa, .dsra32 b d sa, .dror b d sa, .dror32 b d sa, .drorv a b d, .dclo a d,
         .dclz a d] : List Instr), Raises i s .reservedInstruction) ∧
      (s.status.cp0Usable = true → Raises (.dmfc0 b d) s .reservedInstruction ∧
        Raises (.dmtc0 b d) s .reservedInstruction) ∧
      (s.status.cu1 = true → (∀ i ∈ (
      [.dmfc1 b x, .dmtc1 b x, .fpRoundLS x z, .fpRoundLD x z, .fpTruncLS x z, .fpTruncLD x z, .fpCeilLS x z,
       .fpCeilLD x z, .fpFloorLS x z, .fpFloorLD x z, .fpCvtLS x z, .fpCvtLD x z] : List Instr),
        Raises i s .reservedInstruction) ∧ Unimplemented (.fpCvtSL x z) ∧ Unimplemented (.fpCvtDL x z))) ∧
    (s.status.mips4 = false →
      (∀ i ∈ ([.movn a b d, .movz a b d, .pref a sa offset] : List Instr), Raises i s .reservedInstruction) ∧
      (s.status.cu1 = true → (∀ i ∈ (
      [.movf a cc d, .movt a cc d, .lwxc1 a b z, .ldxc1 a b z, .luxc1 a b z, .swxc1 a b x, .sdxc1 a b x,
       .suxc1 a b x, .prefx a b sa] : List Instr),
        Raises i s .reservedInstruction) ∧ (∀ i ∈ (
      [.fpRecipS x z, .fpRecipD x z, .fpRsqrtS x z, .fpRsqrtD x z, .fpMovfS cc x z, .fpMovfD cc x z,
       .fpMovtS cc x z, .fpMovtD cc x z, .fpMovzS b x z, .fpMovzD b x z, .fpMovnS b x z, .fpMovnD b x z,
       .fpMaddS w y x z, .fpMaddD w y x z, .fpMsubS w y x z, .fpMsubD w y x z, .fpNmaddS w y x z,
       .fpNmaddD w y x z, .fpNmsubS w y x z, .fpNmsubD w y x z] : List Instr), Unimplemented i) ∧
        (cc ≠ 0 → ∀ i ∈ (
      [.fpCFS y x cc, .fpCFD y x cc, .fpCUnS y x cc, .fpCUnD y x cc, .fpCEqS y x cc, .fpCEqD y x cc,
       .fpCUeqS y x cc, .fpCUeqD y x cc, .fpCOltS y x cc, .fpCOltD y x cc, .fpCUltS y x cc, .fpCUltD y x cc,
       .fpCOleS y x cc, .fpCOleD y x cc, .fpCUleS y x cc, .fpCUleD y x cc, .fpCSfS y x cc, .fpCSfD y x cc,
       .fpCNgleS y x cc, .fpCNgleD y x cc, .fpCSeqS y x cc, .fpCSeqD y x cc, .fpCNglS y x cc, .fpCNglD y x cc,
       .fpCLtS y x cc, .fpCLtD y x cc, .fpCNgeS y x cc, .fpCNgeD y x cc, .fpCLeS y x cc, .fpCLeD y x cc,
       .fpCNgtS y x cc, .fpCNgtD y x cc, .bc1f cc offset, .bc1t cc offset, .bc1fl cc offset,
         .bc1tl cc offset] : List Instr), Unimplemented i))))

/-- With FR = 0 a computation or doubleword move that names an odd register stops by name (10_state.md R52;
46_fpu_move_ls.md R825; 46_fpu_move_ls.md R832; 47_fpu_arith.md R861). The refusal is the model's treatment of
item U20 (log 34). -/
def Obligations.OddFpRegistersStop : Prop :=
  ∀ (s : State) (b w x y z : RegNum) (cc : BitVec 3), s.status.cu1 = true → s.status.fr = false →
    (x.getLsbD 0 || z.getLsbD 0 →
      (∀ i ∈ (
        [.fpSqrtS x z, .fpSqrtD x z, .fpAbsS x z, .fpAbsD x z, .fpMovS x z, .fpMovD x z, .fpNegS x z,
         .fpNegD x z, .fpRoundWS x z, .fpRoundWD x z, .fpTruncWS x z, .fpTruncWD x z, .fpCeilWS x z,
         .fpCeilWD x z, .fpFloorWS x z, .fpFloorWD x z, .fpCvtWS x z, .fpCvtWD x z, .fpCvtSD x z, .fpCvtSW x z,
         .fpCvtDS x z, .fpCvtDW x z] : List Instr), exec i s = .refused .oddFpRegister) ∧
      (s.status.mips4 = true → ∀ i ∈ (
        [.fpRecipS x z, .fpRecipD x z, .fpRsqrtS x z, .fpRsqrtD x z, .fpMovfS cc x z, .fpMovfD cc x z,
         .fpMovtS cc x z, .fpMovtD cc x z, .fpMovzS b x z, .fpMovzD b x z, .fpMovnS b x z,
           .fpMovnD b x z] : List Instr), exec i s = .refused .oddFpRegister) ∧
      (s.status.ops64 = true → ∀ i ∈ (
        [.fpRoundLS x z, .fpRoundLD x z, .fpTruncLS x z, .fpTruncLD x z, .fpCeilLS x z, .fpCeilLD x z,
         .fpFloorLS x z, .fpFloorLD x z, .fpCvtLS x z, .fpCvtLD x z, .fpCvtSL x z, .fpCvtDL x z] : List Instr),
           exec i s = .refused .oddFpRegister)) ∧
    (y.getLsbD 0 || x.getLsbD 0 || z.getLsbD 0 → ∀ i ∈ (
      [.fpAddS y x z, .fpAddD y x z, .fpSubS y x z, .fpSubD y x z, .fpMulS y x z, .fpMulD y x z, .fpDivS y x z,
       .fpDivD y x z] : List Instr), exec i s = .refused .oddFpRegister) ∧
    (s.status.mips4 = true → w.getLsbD 0 || y.getLsbD 0 || x.getLsbD 0 || z.getLsbD 0 → ∀ i ∈ (
      [.fpMaddS w y x z, .fpMaddD w y x z, .fpMsubS w y x z, .fpMsubD w y x z, .fpNmaddS w y x z,
       .fpNmaddD w y x z, .fpNmsubS w y x z, .fpNmsubD w y x z] : List Instr), exec i s = .refused .oddFpRegister) ∧
    ((cc = 0 ∨ s.status.mips4 = true) → y.getLsbD 0 || x.getLsbD 0 → ∀ i ∈ (
      [.fpCFS y x cc, .fpCFD y x cc, .fpCUnS y x cc, .fpCUnD y x cc, .fpCEqS y x cc, .fpCEqD y x cc,
       .fpCUeqS y x cc, .fpCUeqD y x cc, .fpCOltS y x cc, .fpCOltD y x cc, .fpCUltS y x cc, .fpCUltD y x cc,
       .fpCOleS y x cc, .fpCOleD y x cc, .fpCUleS y x cc, .fpCUleD y x cc, .fpCSfS y x cc, .fpCSfD y x cc,
       .fpCNgleS y x cc, .fpCNgleD y x cc, .fpCSeqS y x cc, .fpCSeqD y x cc, .fpCNglS y x cc, .fpCNglD y x cc,
       .fpCLtS y x cc, .fpCLtD y x cc, .fpCNgeS y x cc, .fpCNgeD y x cc, .fpCLeS y x cc, .fpCLeD y x cc,
       .fpCNgtS y x cc, .fpCNgtD y x cc] : List Instr), exec i s = .refused .oddFpRegister) ∧
    (s.status.ops64 = true → x.getLsbD 0 → exec (.dmtc1 b x) s = .refused .oddFpRegister)

/-- FPU loads write one register half or register, FPU stores the item's bytes, and nothing else (46_fpu_move_ls.md
R800 to R803; 46_fpu_move_ls.md R805 to R810; 46_fpu_move_ls.md R831 to R834). The refusals are the model's
treatment of items U20 (log 34) and U22 (log 36). -/
def Obligations.FpLoadsAndStores : Prop :=
  ∀ (s : State) (base index f : RegNum) (offset : BitVec 16), s.status.cu1 = true → s.Canonical →
    let odd := !s.status.fr && f.getLsbD 0; let even := f &&& 0b11110#5
    let word := if odd then (s.fp even).hi else (s.fp f).lo
    let LoadsWord (i : Instr) (va : Dword) : Prop := TakesAccessException i s va 4 false ∧
      ∀ pa attr, Accessible s va 4 false pa attr →
        if odd then FpWrites i s even fun p => p = { s.fp even with hi := (s.memRead pa 4).setWidth 32 }
        else FpWrites i s f fun p => p.lo = (s.memRead pa 4).setWidth 32 ∧ (s.status.fr = false → p.hi = (s.fp f).hi)
    let LoadsDword (i : Instr) (va : Dword) : Prop := TakesAccessException i s va 8 false ∧
      ∀ pa attr, Accessible s va 8 false pa attr →
        if odd then exec i s = .refused .oddFpRegister else FpWrites i s f fun p => p.hi ++ p.lo = s.memRead pa 8
    let StoresWord (i : Instr) (va : Dword) : Prop := TakesAccessException i s va 4 true ∧
      ∀ pa attr, Accessible s va 4 true pa attr → Stores i s pa 4 (word.setWidth 64)
    let StoresDword (i : Instr) (va : Dword) : Prop := TakesAccessException i s va 8 true ∧
      ∀ pa attr, Accessible s va 8 true pa attr →
        if odd then ∃ v, Stores i s pa 8 v else Stores i s pa 8 ((s.fp f).hi ++ (s.fp f).lo)
    let va := s.reg base + offset.signExtend 64; let vx := s.reg base + s.reg index
    LoadsWord (.lwc1 base f offset) va ∧ LoadsDword (.ldc1 base f offset) va ∧
    StoresWord (.swc1 base f offset) va ∧ StoresDword (.sdc1 base f offset) va ∧
    (s.status.mips4 = true →
      (vx.extractLsb' 62 2 = (s.reg base).extractLsb' 62 2 →
        LoadsWord (.lwxc1 base index f) vx ∧ LoadsDword (.ldxc1 base index f) vx ∧
        LoadsDword (.luxc1 base index f) (vx &&& ~~~7#64) ∧
        StoresWord (.swxc1 base index f) vx ∧ StoresDword (.sdxc1 base index f) vx ∧
        StoresDword (.suxc1 base index f) (vx &&& ~~~7#64)) ∧
      (vx.extractLsb' 62 2 ≠ (s.reg base).extractLsb' 62 2 →
        ∀ i ∈ ([.lwxc1 base index f, .ldxc1 base index f, .luxc1 base index f, .swxc1 base index f,
          .sdxc1 base index f,
          .suxc1 base index f] : List Instr), exec i s = .refused .indexedRegionMismatch))

/-- Moves between the general registers and the FPU, its control registers included (46_fpu_move_ls.md R812 to R817;
46_fpu_move_ls.md R823; 46_fpu_move_ls.md R824; 46_fpu_move_ls.md R831; 10_state.md R53 to R58). What a reserved
control register does is the model's reading of item U21 (log 35), the free value of DMFC1 of an odd register
with FR = 0 its reading of item U20 (log 34); the places of FS, the enables, the flags and the views are item
G15, general knowledge (log 49). -/
def Obligations.FpMoves : Prop :=
  ∀ (s : State) (rt rs rd f : RegNum) (cc : BitVec 3), s.status.cu1 = true →
    let odd := !s.status.fr && f.getLsbD 0; let even := f &&& 0b11110#5; let w := low (s.reg rt)
    let c := s.fcr31; let b := c.cc.getLsbD cc.toNat
    let Controls (n : FprNum) (g : Fcr31) : Prop :=
      if fpTraps g g.cause then exec (.ctc1 rt n) s = .next (takeException .floatingPoint (s.setFcr31 g))
      else SetsFcr31 (.ctc1 rt n) s g
    Computes (.mfc1 rt f) s rt (sext (if odd then (s.fp even).hi else (s.fp f).lo)) ∧
    (if odd then FpWrites (.mtc1 rt f) s even fun p => p = { s.fp even with hi := w }
     else FpWrites (.mtc1 rt f) s f fun p => p.lo = w ∧ (s.status.fr = false → p.hi = (s.fp f).hi)) ∧
    (s.status.ops64 = true →
      (odd = false → Computes (.dmfc1 rt f) s rt ((s.fp f).hi ++ (s.fp f).lo) ∧
        FpWrites (.dmtc1 rt f) s f fun p => p.hi ++ p.lo = s.reg rt) ∧
      (odd = true → ∃ v, Computes (.dmfc1 rt f) s rt v)) ∧
    Computes (.cfc1 rt 0) s rt (sext Config.fcr0Value) ∧
    Computes (.cfc1 rt 25) s rt (c.cc.setWidth 64) ∧
    Computes (.cfc1 rt 26) s rt (c.cause.setWidth 64 <<< 12 ||| c.flags.setWidth 64 <<< 2) ∧
    Computes (.cfc1 rt 28) s rt (c.enables.setWidth 64 <<< 7 ||| (if c.fs then 4 else 0) ||| c.rm.setWidth 64) ∧
    Computes (.cfc1 rt 31) s rt (sext ((c.cc >>> 1).setWidth 32 <<< 25 ||| (if c.fs then 0x1000000 else 0) |||
      (c.cc &&& 1).setWidth 32 <<< 23 ||| c.cause.setWidth 32 <<< 12 ||| c.enables.setWidth 32 <<< 7 |||
      c.flags.setWidth 32 <<< 2 ||| c.rm.setWidth 32)) ∧
    Controls 25 { c with cc := w.setWidth 8 } ∧
    Controls 26 { c with cause := (w >>> 12).setWidth 6, flags := (w >>> 2).setWidth 5 } ∧
    Controls 28 { c with enables := (w >>> 7).setWidth 5, fs := w.getLsbD 2, rm := w.setWidth 2 } ∧
    (∃ g : Fcr31, g.toWord = w &&& 0xFF83FFFF ∧ Controls 31 g) ∧
    DoesNothing (.ctc1 rt 0) s ∧
    (f ∉ [0, 25, 26, 28, 31] → (∃ v, Computes (.cfc1 rt f) s rt v) ∧ exec (.ctc1 rt f) s = .refused .ctc1Reserved) ∧
    (s.status.mips4 = true →
      if b then Computes (.movt rs cc rd) s rd (s.reg rs) ∧ DoesNothing (.movf rs cc rd) s
      else Computes (.movf rs cc rd) s rd (s.reg rs) ∧ DoesNothing (.movt rs cc rd) s)

/-- MOV.fmt and its conditional forms copy a register or leave its value, and nothing else (46_fpu_move_ls.md R825
to R829; 10_state.md R52). -/
def Obligations.FpRegisterMoves : Prop :=
  ∀ (s : State) (rt : RegNum) (fs fd : FprNum) (cc : BitVec 3), FpReady s [fs, fd] →
    let b := s.fcr31.cc.getLsbD cc.toNat
    let Moves (i : Instr) (fmt : FpFormat) (moved : Bool) : Prop :=
      ∃ t, exec i s = .next t ∧ Advanced s t ∧ FpEffect s t fd s.fcr31 ∧
        fpHolds t fmt fd (fmt.read s (if moved then fs else fd))
    Moves (.fpMovS fs fd) .single true ∧
    Moves (.fpMovD fs fd) .double true ∧
    (s.status.mips4 = true →
      Moves (.fpMovfS cc fs fd) .single (!b) ∧
      Moves (.fpMovtS cc fs fd) .single b ∧
      Moves (.fpMovnS rt fs fd) .single (s.reg rt != 0) ∧
      Moves (.fpMovzS rt fs fd) .single (s.reg rt == 0) ∧
      Moves (.fpMovfD cc fs fd) .double (!b) ∧
      Moves (.fpMovtD cc fs fd) .double b ∧
      Moves (.fpMovnD rt fs fd) .double (s.reg rt != 0) ∧
      Moves (.fpMovzD rt fs fd) .double (s.reg rt == 0))

/-- Every arithmetic instruction of the FPU ends in FPFinish with the cause and value of its operation
(47_fpu_arith.md R850; 47_fpu_arith.md R851; 47_fpu_arith.md R852; 47_fpu_arith.md R853; 47_fpu_arith.md R858;
47_fpu_arith.md R865 to R877). The multiply-add family is fused (log 43), the default NaN is the spec's decision
D48 (log 42). -/
def Obligations.FpArithmetic : Prop :=
  ∀ (s : State) (fr ft fs fd : FprNum),
    (FpReady s [ft, fs, fd] →
      Finishes (.fpAddS ft fs fd) s .single fd (fpResult2 .single Fp.add s ft fs) ∧
      Finishes (.fpSubS ft fs fd) s .single fd (fpResult2 .single Fp.sub s ft fs) ∧
      Finishes (.fpMulS ft fs fd) s .single fd (fpResult2 .single (fun _ => Fp.mul) s ft fs) ∧
      Finishes (.fpDivS ft fs fd) s .single fd (fpResult2 .single (fun _ => Fp.div) s ft fs) ∧
      Finishes (.fpAddD ft fs fd) s .double fd (fpResult2 .double Fp.add s ft fs) ∧
      Finishes (.fpSubD ft fs fd) s .double fd (fpResult2 .double Fp.sub s ft fs) ∧
      Finishes (.fpMulD ft fs fd) s .double fd (fpResult2 .double (fun _ => Fp.mul) s ft fs) ∧
      Finishes (.fpDivD ft fs fd) s .double fd (fpResult2 .double (fun _ => Fp.div) s ft fs)) ∧
    (FpReady s [fs, fd] →
      Finishes (.fpSqrtS fs fd) s .single fd (fpResult1 .single Fp.sqrt s fs) ∧
      Finishes (.fpAbsS fs fd) s .single fd (fpSignResult .single (FpFormat.clearSign .single) s fs) ∧
      Finishes (.fpNegS fs fd) s .single fd (fpSignResult .single (FpFormat.flipSign .single) s fs) ∧
      Finishes (.fpSqrtD fs fd) s .double fd (fpResult1 .double Fp.sqrt s fs) ∧
      Finishes (.fpAbsD fs fd) s .double fd (fpSignResult .double (FpFormat.clearSign .double) s fs) ∧
      Finishes (.fpNegD fs fd) s .double fd (fpSignResult .double (FpFormat.flipSign .double) s fs) ∧
      (s.status.mips4 = true →
        Finishes (.fpRecipS fs fd) s .single fd (fpResult1 .single (Fp.div Fp.one) s fs) ∧
        Finishes (.fpRsqrtS fs fd) s .single fd (fpResult1 .single Fp.rsqrt s fs) ∧
        Finishes (.fpRecipD fs fd) s .double fd (fpResult1 .double (Fp.div Fp.one) s fs) ∧
        Finishes (.fpRsqrtD fs fd) s .double fd (fpResult1 .double Fp.rsqrt s fs))) ∧
    (FpReady s [fr, ft, fs, fd] → s.status.mips4 = true →
      Finishes (.fpMaddS fr ft fs fd) s .single fd (fpMadd .single s.fcr31 false false
        (FpFormat.single.operand s fr) (FpFormat.single.operand s fs) (FpFormat.single.operand s ft)) ∧
      Finishes (.fpMsubS fr ft fs fd) s .single fd (fpMadd .single s.fcr31 true false
        (FpFormat.single.operand s fr) (FpFormat.single.operand s fs) (FpFormat.single.operand s ft)) ∧
      Finishes (.fpNmaddS fr ft fs fd) s .single fd (fpMadd .single s.fcr31 false true
        (FpFormat.single.operand s fr) (FpFormat.single.operand s fs) (FpFormat.single.operand s ft)) ∧
      Finishes (.fpNmsubS fr ft fs fd) s .single fd (fpMadd .single s.fcr31 true true
        (FpFormat.single.operand s fr) (FpFormat.single.operand s fs) (FpFormat.single.operand s ft)) ∧
      Finishes (.fpMaddD fr ft fs fd) s .double fd (fpMadd .double s.fcr31 false false
        (FpFormat.double.operand s fr) (FpFormat.double.operand s fs) (FpFormat.double.operand s ft)) ∧
      Finishes (.fpMsubD fr ft fs fd) s .double fd (fpMadd .double s.fcr31 true false
        (FpFormat.double.operand s fr) (FpFormat.double.operand s fs) (FpFormat.double.operand s ft)) ∧
      Finishes (.fpNmaddD fr ft fs fd) s .double fd (fpMadd .double s.fcr31 false true
        (FpFormat.double.operand s fr) (FpFormat.double.operand s fs) (FpFormat.double.operand s ft)) ∧
      Finishes (.fpNmsubD fr ft fs fd) s .double fd (fpMadd .double s.fcr31 true true
        (FpFormat.double.operand s fr) (FpFormat.double.operand s fs) (FpFormat.double.operand s ft)))

/-- Every conversion ends in FPFinish with the cause and value of its rounding (47_fpu_arith.md R850;
47_fpu_arith.md R854; 47_fpu_arith.md R858; 47_fpu_arith.md R859; 47_fpu_arith.md R862; 47_fpu_arith.md R880 to
R888; 47_fpu_arith.md R889; 47_fpu_arith.md R890; 47_fpu_arith.md R891; 47_fpu_arith.md R892). Infinity converts
to infinity by the spec's decision D47 (log 44); the default NaN is its decision D48 (log 42); the order of the
screen is D49 (log 68); a NaN is signaling when its top fraction bit is 1 (log 45), the places of the fields are
general knowledge (log 49). -/
def Obligations.FpConversions : Prop :=
  (∀ (s : State) (fs fd : FprNum), FpReady s [fs, fd] →
    let e : FpResult := { cause := 0b100000, value := 0 }
    let toFixed (mode : Rounding) (lo hi : Int) (x : Fp) : FpResult := match x with
      | .finite neg m k => let z := roundToInt mode neg m k
        if lo ≤ z.1 ∧ z.1 ≤ hi then { cause := if z.2 then 0b000001 else 0, value := BitVec.ofInt 64 z.1 } else e
      | _ => e
    let toFloat (dst : FpFormat) (x : Fp) : FpResult := match x with
      | .finite neg m k => fpRound dst s.fcr31 false neg m k false
      | .inf neg => { cause := 0, value := dst.infinity neg }
      | .snan => { cause := 0b010000, value := dst.qnan }
      | _ => e
    let ofInt (dst : FpFormat) (z : Int) : FpResult := fpRound dst s.fcr31 false (decide (z < 0)) z.natAbs 0 false
    let ofLong (dst : FpFormat) (z : Int) : FpResult := if -2 ^ 55 ≤ z ∧ z ≤ 2 ^ 55 - 1 then ofInt dst z else e
    let a := FpFormat.single.decode ((s.fp fs).lo.setWidth 64)
    let b := FpFormat.double.decode ((s.fp fs).hi ++ (s.fp fs).lo)
    Finishes (.fpRoundWS fs fd) s .single fd (toFixed .nearest (-2 ^ 31) (2 ^ 31 - 1) a) ∧
    Finishes (.fpTruncWS fs fd) s .single fd (toFixed .toZero (-2 ^ 31) (2 ^ 31 - 1) a) ∧
    Finishes (.fpCeilWS fs fd) s .single fd (toFixed .up (-2 ^ 31) (2 ^ 31 - 1) a) ∧
    Finishes (.fpFloorWS fs fd) s .single fd (toFixed .down (-2 ^ 31) (2 ^ 31 - 1) a) ∧
    Finishes (.fpCvtWS fs fd) s .single fd (toFixed s.fcr31.rounding (-2 ^ 31) (2 ^ 31 - 1) a) ∧
    Finishes (.fpRoundWD fs fd) s .single fd (toFixed .nearest (-2 ^ 31) (2 ^ 31 - 1) b) ∧
    Finishes (.fpTruncWD fs fd) s .single fd (toFixed .toZero (-2 ^ 31) (2 ^ 31 - 1) b) ∧
    Finishes (.fpCeilWD fs fd) s .single fd (toFixed .up (-2 ^ 31) (2 ^ 31 - 1) b) ∧
    Finishes (.fpFloorWD fs fd) s .single fd (toFixed .down (-2 ^ 31) (2 ^ 31 - 1) b) ∧
    Finishes (.fpCvtWD fs fd) s .single fd (toFixed s.fcr31.rounding (-2 ^ 31) (2 ^ 31 - 1) b) ∧
    Finishes (.fpCvtSD fs fd) s .single fd (toFloat .single b) ∧
    Finishes (.fpCvtDS fs fd) s .double fd (toFloat .double a) ∧
    Finishes (.fpCvtSW fs fd) s .single fd (ofInt .single (s.fp fs).lo.toInt) ∧
    Finishes (.fpCvtDW fs fd) s .double fd (ofInt .double (s.fp fs).lo.toInt) ∧
    (s.status.ops64 = true →
      Finishes (.fpRoundLS fs fd) s .double fd (toFixed .nearest (-2 ^ 53) (2 ^ 53 - 1) a) ∧
      Finishes (.fpTruncLS fs fd) s .double fd (toFixed .toZero (-2 ^ 53) (2 ^ 53 - 1) a) ∧
      Finishes (.fpCeilLS fs fd) s .double fd (toFixed .up (-2 ^ 53) (2 ^ 53 - 1) a) ∧
      Finishes (.fpFloorLS fs fd) s .double fd (toFixed .down (-2 ^ 53) (2 ^ 53 - 1) a) ∧
      Finishes (.fpCvtLS fs fd) s .double fd (toFixed s.fcr31.rounding (-2 ^ 53) (2 ^ 53 - 1) a) ∧
      Finishes (.fpRoundLD fs fd) s .double fd (toFixed .nearest (-2 ^ 53) (2 ^ 53 - 1) b) ∧
      Finishes (.fpTruncLD fs fd) s .double fd (toFixed .toZero (-2 ^ 53) (2 ^ 53 - 1) b) ∧
      Finishes (.fpCeilLD fs fd) s .double fd (toFixed .up (-2 ^ 53) (2 ^ 53 - 1) b) ∧
      Finishes (.fpFloorLD fs fd) s .double fd (toFixed .down (-2 ^ 53) (2 ^ 53 - 1) b) ∧
      Finishes (.fpCvtLD fs fd) s .double fd (toFixed s.fcr31.rounding (-2 ^ 53) (2 ^ 53 - 1) b) ∧
      Finishes (.fpCvtSL fs fd) s .single fd (ofLong .single ((s.fp fs).hi ++ (s.fp fs).lo).toInt) ∧
      Finishes (.fpCvtDL fs fd) s .double fd (ofLong .double ((s.fp fs).hi ++ (s.fp fs).lo).toInt))) ∧
  (∀ (c : Fcr31) (neg : Bool) (m : Nat) (k : Int), (∃ v, FpFormat.single.decode v = .finite neg m k) ∨
      (k = 0 ∧ m ≤ 2 ^ 31) →
    let r := fpRound .double c false neg m k false
    r.cause = 0 ∧ fpValue (FpFormat.double.decode r.value) = some (ratOf neg m k)) ∧
  (∀ v : Dword,
    let Reads (x : Fp) (neg : Bool) (e f bias n : Nat) : Prop :=
      (e = 2 * bias + 1 → x = if f = 0 then .inf neg else if 2 ^ (n - 1) ≤ f then .snan else .qnan) ∧
      (e = 0 → f = 0 → ∃ k, x = .finite neg 0 k) ∧
      (e = 0 → f ≠ 0 → ∃ m k, x = .denormal neg m k ∧ ratOf neg m k = ratOf neg f (1 - (bias : Int) - n)) ∧
      (0 < e → e ≤ 2 * bias → ∃ m k, x = .finite neg m k ∧
        ratOf neg m k = ratOf neg (2 ^ n + f) ((e : Int) - bias - n))
    Reads (FpFormat.single.decode v) (v.getLsbD 31) (v.extractLsb' 23 8).toNat (v.extractLsb' 0 23).toNat 127 23 ∧
    Reads (FpFormat.double.decode v) (v.getLsbD 63) (v.extractLsb' 52 11).toNat (v.extractLsb' 0 52).toNat 1023 52)

/-- A compare sets one condition code to its condition and signals invalid on NaNs as its rule says (47_fpu_arith.md
R895; 47_fpu_arith.md R850; 47_fpu_arith.md R858). -/
def Obligations.FpCompares : Prop :=
  ∀ (s : State) (ft fs : FprNum) (cc : BitVec 3), FpReady s [ft, fs] → (cc = 0 ∨ s.status.mips4 = true) →
    let Compares (i : Instr) (fmt : FpFormat) (cond : BitVec 4) : Prop :=
      let a := fmt.operand s fs; let b := fmt.operand s ft; let r := Fp.relate a b
      let cause : BitVec 6 := if a = .snan || b = .snan || (cond.getLsbD 3 && r.unordered) then 0b010000 else 0
      let truth := (cond.getLsbD 2 && r.less) || (cond.getLsbD 1 && r.equal) || (cond.getLsbD 0 && r.unordered)
      (fpTraps s.fcr31 cause = false → ∃ bits : BitVec 8,
        (∀ j < 8, bits.getLsbD j = if j = cc.toNat then truth else s.fcr31.cc.getLsbD j) ∧
        SetsFcr31 i s { fcrAfter s.fcr31 cause with cc := bits }) ∧
      (fpTraps s.fcr31 cause = true →
        exec i s = .next (takeException .floatingPoint (s.setFcr31 { s.fcr31 with cause := cause })))
    Compares (.fpCFS ft fs cc) .single 0 ∧ Compares (.fpCFD ft fs cc) .double 0 ∧
    Compares (.fpCUnS ft fs cc) .single 1 ∧ Compares (.fpCUnD ft fs cc) .double 1 ∧
    Compares (.fpCEqS ft fs cc) .single 2 ∧ Compares (.fpCEqD ft fs cc) .double 2 ∧
    Compares (.fpCUeqS ft fs cc) .single 3 ∧ Compares (.fpCUeqD ft fs cc) .double 3 ∧
    Compares (.fpCOltS ft fs cc) .single 4 ∧ Compares (.fpCOltD ft fs cc) .double 4 ∧
    Compares (.fpCUltS ft fs cc) .single 5 ∧ Compares (.fpCUltD ft fs cc) .double 5 ∧
    Compares (.fpCOleS ft fs cc) .single 6 ∧ Compares (.fpCOleD ft fs cc) .double 6 ∧
    Compares (.fpCUleS ft fs cc) .single 7 ∧ Compares (.fpCUleD ft fs cc) .double 7 ∧
    Compares (.fpCSfS ft fs cc) .single 8 ∧ Compares (.fpCSfD ft fs cc) .double 8 ∧
    Compares (.fpCNgleS ft fs cc) .single 9 ∧ Compares (.fpCNgleD ft fs cc) .double 9 ∧
    Compares (.fpCSeqS ft fs cc) .single 10 ∧ Compares (.fpCSeqD ft fs cc) .double 10 ∧
    Compares (.fpCNglS ft fs cc) .single 11 ∧ Compares (.fpCNglD ft fs cc) .double 11 ∧
    Compares (.fpCLtS ft fs cc) .single 12 ∧ Compares (.fpCLtD ft fs cc) .double 12 ∧
    Compares (.fpCNgeS ft fs cc) .single 13 ∧ Compares (.fpCNgeD ft fs cc) .double 13 ∧
    Compares (.fpCLeS ft fs cc) .single 14 ∧ Compares (.fpCLeD ft fs cc) .double 14 ∧
    Compares (.fpCNgtS ft fs cc) .single 15 ∧ Compares (.fpCNgtD ft fs cc) .double 15 ∧
    (∀ a b : Fp, let r := Fp.relate a b
      (r.unordered = true ↔ a ∈ [.snan, .qnan] ∨ b ∈ [.snan, .qnan]) ∧
      (∀ x y, fpValue a = some x → fpValue b = some y → (r.less = true ↔ x < y) ∧ (r.equal = true ↔ x = y))) ∧
    (∀ neg neg' : Bool, let r := Fp.relate (.inf neg) (.inf neg')
      r = { less := neg && !neg', equal := decide (neg = neg'), unordered := false }) ∧
    (∀ (neg : Bool) (x : Fp) (v : Rat), fpValue x = some v →
      Fp.relate (.inf neg) x = { less := neg, equal := false, unordered := false } ∧
      Fp.relate x (.inf neg) = { less := !neg, equal := false, unordered := false })

/-- Operations on numbers are exact before rounding, special operands signal, and the multiply-add family rounds
once (47_fpu_arith.md R854; 47_fpu_arith.md R857; 47_fpu_arith.md R862; 47_fpu_arith.md R865 to R869;
47_fpu_arith.md R870; 47_fpu_arith.md R871; 47_fpu_arith.md R872; 47_fpu_arith.md R873; 47_fpu_arith.md R874;
47_fpu_arith.md R875; 47_fpu_arith.md R876; 47_fpu_arith.md R877). E alone for a quiet NaN or denormal whatever
the other operand is the spec's decision D49 (log 68); the signs of zero results are general knowledge (log 60);
the default NaN is D48 (log 42), one rounding in the multiply-add family D50 (log 43). -/
def Obligations.FpOperationsAreExact : Prop :=
  (∀ (mode : Rounding) (a b : Bool) (m n : Nat) (e g : Int),
    let x := ratOf a m e; let y := ratOf b n g; let u := Fp.finite a m e; let v := Fp.finite b n g
    (∃ c k h, Fp.add mode u v = .value c k h false ∧ ratOf c k h = x + y ∧
      (k = 0 → c = if a = b then a else mode = .down)) ∧
    (∃ c k h, Fp.sub mode u v = .value c k h false ∧ ratOf c k h = x - y ∧
      (k = 0 → c = if a = !b then a else mode = .down)) ∧
    (∃ k h, Fp.mul u v = .value (a != b) k h false ∧ ratOf (a != b) k h = x * y) ∧
    (m ≠ 0 → n ≠ 0 → ∃ k h r, Fp.div u v = .value (a != b) k h r ∧
      ratOf false k h ≤ |x / y| ∧ |x / y| < ratOf false (k + 1) h ∧ (r = false ↔ ratOf false k h = |x / y|) ∧
      (n ≤ 2 * m → 2 ^ 59 ≤ k)) ∧
    (m ≠ 0 → a = false → ∃ k h r, Fp.sqrt u = .value false k h r ∧
      ratOf false k h ^ 2 ≤ x ∧ x < ratOf false (k + 1) h ^ 2 ∧ (r = false ↔ ratOf false k h ^ 2 = x) ∧ 2 ^ 59 ≤ k) ∧
    (m ≠ 0 → a = false → ∃ k h r, Fp.rsqrt u = .value false k h r ∧
      ratOf false k h ^ 2 ≤ 1 / x ∧ 1 / x < ratOf false (k + 1) h ^ 2 ∧ (r = false ↔ ratOf false k h ^ 2 = 1 / x) ∧
      (m < 2 ^ 53 → 2 ^ 59 ≤ k)) ∧
    (∃ k h, Fp.one = .finite false k h ∧ ratOf false k h = 1 ∧ (m < 2 ^ 53 → m ≤ 2 * k)) ∧
    Fp.add mode (.inf a) (.inf (!a)) = .invalid ∧ Fp.sub mode (.inf a) (.inf a) = .invalid ∧
    Fp.add mode (.inf a) (.inf a) = .inf a ∧ Fp.sub mode (.inf a) (.inf (!a)) = .inf a ∧
    Fp.add mode (.inf a) v = .inf a ∧ Fp.sub mode (.inf a) v = .inf a ∧
    Fp.add mode v (.inf a) = .inf a ∧ Fp.sub mode v (.inf a) = .inf (!a) ∧
    Fp.mul (.inf a) (.finite b 0 g) = .invalid ∧ Fp.mul (.finite b 0 g) (.inf a) = .invalid ∧
    Fp.mul (.inf a) (.inf b) = .inf (a != b) ∧
    (n ≠ 0 → Fp.mul (.inf a) v = .inf (a != b) ∧ Fp.mul v (.inf a) = .inf (b != a)) ∧
    Fp.div (.finite a 0 e) (.finite b 0 g) = .invalid ∧ Fp.div (.inf a) (.inf b) = .invalid ∧
    (m ≠ 0 → Fp.div u (.finite b 0 g) = .divideByZero (a != b)) ∧
    (n ≠ 0 → ∃ h, Fp.div (.finite a 0 e) v = .value (a != b) 0 h false) ∧
    Fp.div (.inf a) v = .inf (a != b) ∧ (∃ h, Fp.div u (.inf b) = .value (a != b) 0 h false) ∧
    (m ≠ 0 → Fp.sqrt (.finite true m e) = .invalid ∧ Fp.rsqrt (.finite true m e) = .invalid) ∧
    (∃ h, Fp.sqrt (.finite a 0 e) = .value a 0 h false) ∧ Fp.rsqrt (.finite a 0 e) = .divideByZero a ∧
    Fp.sqrt (.inf false) = .inf false ∧ (∃ h, Fp.rsqrt (.inf false) = .value false 0 h false) ∧
    Fp.sqrt (.inf true) = .invalid ∧ Fp.rsqrt (.inf true) = .invalid) ∧
  (∀ (f : FpFormat) (l : List Fp), let Handed : Prop := ∃ x ∈ l, x = .qnan ∨ ∃ c k h, x = .denormal c k h
    (Handed → fpScreen f l = some { cause := 0b100000, value := 0 }) ∧
    (¬ Handed → .snan ∈ l → fpScreen f l = some { cause := 0b010000, value := f.qnan }) ∧
    (¬ Handed → .snan ∉ l → fpScreen f l = none)) ∧
  FpFormat.single.qnan = 0x7FBFFFFF ∧ FpFormat.double.qnan = 0x7FF7FFFFFFFFFFFF ∧
  (∀ (f : FpFormat) (c : Fcr31) (madd neg : Bool) (m : Nat) (e : Int) (sticky : Bool),
    FpExact.invalid.result f c madd = { cause := 0b010000, value := f.qnan } ∧
    (FpExact.divideByZero neg).result f c madd = { cause := 0b001000, value := f.infinity neg } ∧
    (FpExact.inf neg).result f c madd = { cause := 0, value := f.infinity neg } ∧
    (FpExact.value neg m e sticky).result f c madd = fpRound f c madd neg m e sticky) ∧
  (∀ (f : FpFormat) (s : State) (ft fs : FprNum) (op2 : Rounding → Fp → Fp → FpExact) (op1 : Fp →
    FpExact) (r : FpResult),
    let word := match f with | .single => (s.fp fs).lo.setWidth 64 | .double => (s.fp fs).hi ++ (s.fp fs).lo
    let sign := match f with | .single => 31 | .double => 63
    let a := f.operand s fs; let b := f.operand s ft; let abs := fpSignResult f f.clearSign s fs
    let neg := fpSignResult f f.flipSign s fs
    a = f.decode word ∧
    (fpScreen f [a, b] = some r → fpResult2 f op2 s ft fs = r) ∧
    (fpScreen f [a, b] = none → fpResult2 f op2 s ft fs = (op2 s.fcr31.rounding a b).result f s.fcr31 false) ∧
    (fpScreen f [a] = some r → fpResult1 f op1 s fs = r ∧ abs = r ∧ neg = r) ∧
    (fpScreen f [a] = none → fpResult1 f op1 s fs = (op1 a).result f s.fcr31 false ∧
      abs.cause = 0 ∧ (∀ j < 64, abs.value.getLsbD j = if j = sign then false else word.getLsbD j) ∧
      neg.cause = 0 ∧ (∀ j < 64, neg.value.getLsbD j = if j = sign then !word.getLsbD j else word.getLsbD j))) ∧
  (∀ (f : FpFormat) (c : Fcr31) (minus neg a b d : Bool) (m n l : Nat) (e g i : Int) (r : FpResult) (z t w : Fp),
    let signed (q : FpResult) : FpResult := { q with value := q.value ^^^ (if neg then f.zero true else 0) }
    let x := f.normalize c.rounding (a != b) (m * n) (e + g) false
    let u := Fp.finite a m e; let v := Fp.finite b n g; let k := Fp.finite d l i
    let fits : Prop := m * n = 0 ∨ f.emin ≤ f.exponent x ∧ f.exponent x ≤ f.emax
    let invalid : FpResult := { cause := 0b010000, value := f.qnan }
    (fpScreen f [z, t, w] = some r → fpMadd f c minus neg z t w = r) ∧
    (¬ fits → fpMadd f c minus neg k u v = { cause := 0b100000, value := 0 } ∧
      fpMadd f c minus neg (.inf d) u v = { cause := 0b100000, value := 0 }) ∧
    (fits → fpMadd f c minus neg (.inf d) u v = signed { cause := 0, value := f.infinity (d != minus) } ∧
      ∃ s q h, ratOf s q h = ratOf a m e * ratOf b n g + (if minus then -1 else 1) * ratOf d l i ∧
        (q = 0 → s = if (a != b) = (d != minus) then (a != b) else decide (c.rounding = .down)) ∧
        let y := fpRound f c true s q h false
        fpMadd f c minus neg k u v = if y.cause = 0b100000 then y else signed y) ∧
    (∀ z ∈ [k, .inf d], fpMadd f c minus neg z (.inf a) (.finite b 0 g) = invalid ∧
      fpMadd f c minus neg z (.finite b 0 g) (.inf a) = invalid) ∧
    (∀ p ∈ [(Fp.inf a, Fp.inf b)] ++ (if n = 0 then [] else [(Fp.inf a, v), (v, Fp.inf a)]),
      let s := a != b
      fpMadd f c minus neg k p.1 p.2 = signed { cause := 0, value := f.infinity s } ∧
      fpMadd f c minus neg (.inf d) p.1 p.2 =
        if s = (d != minus) then signed { cause := 0, value := f.infinity s } else invalid))

/-- Rounding to a format, and to an integer, gives the neighbour that the mode selects (47_fpu_arith.md R854;
47_fpu_arith.md R855; 47_fpu_arith.md R857; 47_fpu_arith.md R859; 47_fpu_arith.md R880). That cause E comes
alone on underflow is the spec's decision D49 (log 68). -/
def Obligations.RoundingIsCorrect : Prop :=
  (∀ (f : FpFormat) (mode : Rounding) (neg : Bool) (m : Nat) (e : Int) (sticky : Bool) (r : Rat), m ≠ 0 →
    ratOf false m e ≤ r → r < ratOf false (m + 1) e → (sticky = false ↔ r = ratOf false m e) →
    (sticky = true → 2 ^ (f.precision + 1) ≤ m) →
    let x := f.normalize mode neg m e sticky; let y := ratOf false x.q x.e; let ulp := ratOf false 1 x.e
    2 ^ (f.precision - 1) ≤ x.q ∧ x.q < 2 ^ f.precision ∧ (x.inexact = true ↔ y ≠ r) ∧
    (mode = .toZero ∨ (mode = .up ∧ neg = true) ∨ (mode = .down ∧ neg = false) → y ≤ r ∧ r < y + ulp) ∧
    ((mode = .up ∧ neg = false) ∨ (mode = .down ∧ neg = true) → r ≤ y ∧ y - ulp < r) ∧
    (mode = .nearest → |y - r| ≤ ulp / 2 ∧ (|y - r| = ulp / 2 → x.q % 2 = 0)) ∧
    (f.emin ≤ f.exponent x → f.exponent x ≤ f.emax → f.decode (f.packNormal neg x) = .finite neg x.q x.e)) ∧
  (∀ (mode : Rounding) (neg : Bool) (m : Nat) (e : Int),
    let v := ratOf neg m e; let z := roundToInt mode neg m e
    (z.2 = true ↔ (z.1 : Rat) ≠ v) ∧
    (mode = .toZero → |(z.1 : Rat)| ≤ |v| ∧ |v| < |(z.1 : Rat)| + 1 ∧ 0 ≤ z.1 * v) ∧
    (mode = .up → v ≤ z.1 ∧ (z.1 : Rat) < v + 1) ∧ (mode = .down → z.1 ≤ v ∧ v < (z.1 : Rat) + 1) ∧
    (mode = .nearest → |(z.1 : Rat) - v| ≤ 1 / 2 ∧ (|(z.1 : Rat) - v| = 1 / 2 → z.1 % 2 = 0))) ∧
  (∀ (f : FpFormat) (c : Fcr31) (madd neg : Bool) (m : Nat) (e : Int) (sticky : Bool),
    let x := f.normalize c.rounding neg m e sticky; let r := fpRound f c madd neg m e sticky
    let toward := (c.rounding = .up ∧ neg = false) ∨ (c.rounding = .down ∧ neg = true)
    (m = 0 → r = { cause := 0, value := f.zero neg }) ∧
    (m ≠ 0 → f.emin ≤ f.exponent x → f.exponent x ≤ f.emax →
      r = { cause := if x.inexact then 0b000001 else 0, value := f.packNormal neg x }) ∧
    (m ≠ 0 → f.emax < f.exponent x → r.cause = 0b000101 ∧
      (c.rounding = .nearest ∨ toward → r.value = f.infinity neg) ∧
      (¬ (c.rounding = .nearest ∨ toward) → r.value = f.maxNormal neg)) ∧
    (m ≠ 0 → f.exponent x < f.emin →
      (madd = true ∨ c.enables.getLsbD 1 = true ∨ c.enables.getLsbD 0 = true ∨ c.fs = false → r.cause = 0b100000) ∧
      (madd = false → c.enables.getLsbD 1 = false → c.enables.getLsbD 0 = false → c.fs = true →
        r.cause = 0b000011 ∧ (toward → r.value = f.minNormal neg) ∧ (¬ toward → r.value = f.zero neg)))) ∧
  FpFormat.single.infinity false = 0x7F800000 ∧ FpFormat.single.maxNormal false = 0x7F7FFFFF ∧
  FpFormat.single.minNormal false = 0x00800000 ∧ FpFormat.single.zero true = 0x80000000 ∧
  FpFormat.double.infinity false = 0x7FF0000000000000 ∧ FpFormat.double.maxNormal false = 0x7FEFFFFFFFFFFFFF ∧
  FpFormat.double.minNormal false = 0x0010000000000000 ∧ FpFormat.double.zero true = 0x8000000000000000

/-- An instruction in user mode that raises nothing leaves the system state alone (10_state.md R8; 45_cp0_system.md
R700; 60_exceptions.md R1005). -/
def Obligations.UserModeKeepsSystemState : Prop :=
  ∀ (i : Instr) (s t : State), s.status.mode = .user → s.status.cu0 = false → exec i s = .next t →
    s.raised = false → t.raised = false →
    t.cp0 = { s.cp0 with llAddr := t.cp0.llAddr } ∧ t.tlb = s.tlb ∧ t.runState = s.runState ∧ t.pins = s.pins ∧
      t.inputs = s.inputs ∧ t.env = s.env

/-- Interrupt lines and inputs, and the instruction boundary at which an interrupt is taken; it ends standby
(60_exceptions.md R1031; 60_exceptions.md R1040; 60_exceptions.md R1043; 60_exceptions.md R1044;
60_exceptions.md R1046; 60_exceptions.md R1050; 60_exceptions.md R1051; 45_cp0_system.md R735; 10_state.md R45;
10_state.md R23). That an exception of the instruction itself comes before the interrupt, and that an
instruction that ends in a stop gives way to it, is the model's choice (log 8); ticks are events of the
environment (D55, log 9), one NMI for each request is D54 (log 55). -/
def Obligations.InterruptsAtTheBoundary : Prop :=
  (∀ s : State, s.inputs.coldReset = none → s.inputs.softReset = false → s.runState ≠ .held →
    s.inputs.nmiPending = 0 → s.pendingCacheError = none →
    (s.intRequest = true ↔
      s.status.ie = true ∧ s.status.exl = false ∧ s.status.erl = false ∧
        ∃ j, (s.causeIp &&& s.status.im).getLsbD j = true) ∧
    (s.runState = .standby →
      s.afterEvents = if s.intRequest then .next (takeException .interrupt s) else .next s) ∧
    (s.runState = .running → s.intRequest = false → s.afterEvents = s.runInstr) ∧
    (s.runState = .running → s.intRequest = true → s.raised = false →
      ((∃ t, s.runInstr = .next t ∧ t.raised = true) → s.afterEvents = s.runInstr) ∧
      ((∀ t, s.runInstr = .next t → t.raised = false) → s.afterEvents = .next (takeException .interrupt s)))) ∧
  (∀ s : State, step s = s.deliver.afterEvents ∧ s.deliver.raised = false ∧
    ∀ e, (takeException e s).raised = true) ∧
  (∀ s : State,
    (∀ j < 2, s.causeIp.getLsbD j = s.cp0.cause.ip10.getLsbD j) ∧
    (∀ j < 5, s.causeIp.getLsbD (j + 2) = (s.inputs.intPin.getLsbD j || s.inputs.intReg.getLsbD j)) ∧
    s.causeIp.getLsbD 7 = (if s.pins.tIntSel then s.inputs.timerReq
      else s.inputs.intPin.getLsbD 5 || s.inputs.intReg.getLsbD 5) ∧
    (s.readCp0 13).extractLsb' 8 8 = s.causeIp) ∧
  (∀ (s : State) (data : BitVec 23) (levels : BitVec 6),
    (let t := s.deliverEvent .tick
     t.cp0 = { s.cp0 with count := s.cp0.count + 1 } ∧
     (t.inputs.timerReq = true ↔ s.inputs.timerReq = true ∨ s.cp0.count + 1 = s.cp0.compare)) ∧
    (let t := s.deliverEvent (.externalWrite data)
     (∀ j < 7, t.inputs.intReg.getLsbD j =
       if data.getLsbD (16 + j) then data.getLsbD j else s.inputs.intReg.getLsbD j) ∧
     t.inputs.nmiPending =
       s.inputs.nmiPending + if s.inputs.intReg.getLsbD 6 = false ∧ t.inputs.intReg.getLsbD 6 = true then 1 else 0) ∧
    (s.deliverEvent .nmiEdge).inputs.nmiPending = s.inputs.nmiPending + 1 ∧
    (s.deliverEvent (.intPins levels)).inputs.intPin = levels)
end

