-- ==== Sys2Proof/Laws/Exec.lean ====
section
/-! SUPPORT. One lemma for each arm of `exec`: a proof rewrites with the one it needs and never unfolds the match. -/

namespace Sys2Proof.Machine

variable (s : State)

theorem exec_addi (rs rt : RegNum) (imm : BitVec 16) : exec (.addi rs rt imm) s = execAddi rs rt imm s := rfl
theorem exec_addiu (rs rt : RegNum) (imm : BitVec 16) : exec (.addiu rs rt imm) s = execAddiu rs rt imm s := rfl
theorem exec_slti (rs rt : RegNum) (imm : BitVec 16) : exec (.slti rs rt imm) s = execSlti rs rt imm s := rfl
theorem exec_sltiu (rs rt : RegNum) (imm : BitVec 16) : exec (.sltiu rs rt imm) s = execSltiu rs rt imm s := rfl
theorem exec_andi (rs rt : RegNum) (imm : BitVec 16) : exec (.andi rs rt imm) s = execAndi rs rt imm s := rfl
theorem exec_ori (rs rt : RegNum) (imm : BitVec 16) : exec (.ori rs rt imm) s = execOri rs rt imm s := rfl
theorem exec_xori (rs rt : RegNum) (imm : BitVec 16) : exec (.xori rs rt imm) s = execXori rs rt imm s := rfl
theorem exec_daddi (rs rt : RegNum) (imm : BitVec 16) : exec (.daddi rs rt imm) s = execDaddi rs rt imm s := rfl
theorem exec_daddiu (rs rt : RegNum) (imm : BitVec 16) : exec (.daddiu rs rt imm) s = execDaddiu rs rt imm s := rfl
theorem exec_lui (rt : RegNum) (imm : BitVec 16) : exec (.lui rt imm) s = execLui rt imm s := rfl
theorem exec_lb (base rt : RegNum) (offset : BitVec 16) : exec (.lb base rt offset) s = execLb base rt offset s := rfl
theorem exec_lh (base rt : RegNum) (offset : BitVec 16) : exec (.lh base rt offset) s = execLh base rt offset s := rfl
theorem exec_lwl (base rt : RegNum) (offset : BitVec 16) :
    exec (.lwl base rt offset) s = execLwl base rt offset s := rfl
theorem exec_lw (base rt : RegNum) (offset : BitVec 16) : exec (.lw base rt offset) s = execLw base rt offset s := rfl
theorem exec_lbu (base rt : RegNum) (offset : BitVec 16) :
    exec (.lbu base rt offset) s = execLbu base rt offset s := rfl
theorem exec_lhu (base rt : RegNum) (offset : BitVec 16) :
    exec (.lhu base rt offset) s = execLhu base rt offset s := rfl
theorem exec_lwr (base rt : RegNum) (offset : BitVec 16) :
    exec (.lwr base rt offset) s = execLwr base rt offset s := rfl
theorem exec_lwu (base rt : RegNum) (offset : BitVec 16) :
    exec (.lwu base rt offset) s = execLwu base rt offset s := rfl
theorem exec_sb (base rt : RegNum) (offset : BitVec 16) : exec (.sb base rt offset) s = execSb base rt offset s := rfl
theorem exec_sh (base rt : RegNum) (offset : BitVec 16) : exec (.sh base rt offset) s = execSh base rt offset s := rfl
theorem exec_swl (base rt : RegNum) (offset : BitVec 16) :
    exec (.swl base rt offset) s = execSwl base rt offset s := rfl
theorem exec_sw (base rt : RegNum) (offset : BitVec 16) : exec (.sw base rt offset) s = execSw base rt offset s := rfl
theorem exec_sdl (base rt : RegNum) (offset : BitVec 16) :
    exec (.sdl base rt offset) s = execSdl base rt offset s := rfl
theorem exec_sdr (base rt : RegNum) (offset : BitVec 16) :
    exec (.sdr base rt offset) s = execSdr base rt offset s := rfl
theorem exec_swr (base rt : RegNum) (offset : BitVec 16) :
    exec (.swr base rt offset) s = execSwr base rt offset s := rfl
theorem exec_ldl (base rt : RegNum) (offset : BitVec 16) :
    exec (.ldl base rt offset) s = execLdl base rt offset s := rfl
theorem exec_ldr (base rt : RegNum) (offset : BitVec 16) :
    exec (.ldr base rt offset) s = execLdr base rt offset s := rfl
theorem exec_ll (base rt : RegNum) (offset : BitVec 16) : exec (.ll base rt offset) s = execLl base rt offset s := rfl
theorem exec_lld (base rt : RegNum) (offset : BitVec 16) :
    exec (.lld base rt offset) s = execLld base rt offset s := rfl
theorem exec_ld (base rt : RegNum) (offset : BitVec 16) : exec (.ld base rt offset) s = execLd base rt offset s := rfl
theorem exec_sc (base rt : RegNum) (offset : BitVec 16) : exec (.sc base rt offset) s = execSc base rt offset s := rfl
theorem exec_scd (base rt : RegNum) (offset : BitVec 16) :
    exec (.scd base rt offset) s = execScd base rt offset s := rfl
theorem exec_sd (base rt : RegNum) (offset : BitVec 16) : exec (.sd base rt offset) s = execSd base rt offset s := rfl
theorem exec_cache (base : RegNum) (op : BitVec 5) (offset : BitVec 16) :
    exec (.cache base op offset) s = execCache base op offset s := rfl
theorem exec_pref (base : RegNum) (hint : BitVec 5) (offset : BitVec 16) :
    exec (.pref base hint offset) s = execPref base hint offset s := rfl
theorem exec_lwc1 (base : RegNum) (ft : FprNum) (offset : BitVec 16) :
    exec (.lwc1 base ft offset) s = execLwc1 base ft offset s := rfl
theorem exec_ldc1 (base : RegNum) (ft : FprNum) (offset : BitVec 16) :
    exec (.ldc1 base ft offset) s = execLdc1 base ft offset s := rfl
theorem exec_swc1 (base : RegNum) (ft : FprNum) (offset : BitVec 16) :
    exec (.swc1 base ft offset) s = execSwc1 base ft offset s := rfl
theorem exec_sdc1 (base : RegNum) (ft : FprNum) (offset : BitVec 16) :
    exec (.sdc1 base ft offset) s = execSdc1 base ft offset s := rfl
theorem exec_beq (rs rt : RegNum) (offset : BitVec 16) : exec (.beq rs rt offset) s = execBeq rs rt offset s := rfl
theorem exec_bne (rs rt : RegNum) (offset : BitVec 16) : exec (.bne rs rt offset) s = execBne rs rt offset s := rfl
theorem exec_beql (rs rt : RegNum) (offset : BitVec 16) : exec (.beql rs rt offset) s = execBeql rs rt offset s := rfl
theorem exec_bnel (rs rt : RegNum) (offset : BitVec 16) : exec (.bnel rs rt offset) s = execBnel rs rt offset s := rfl
theorem exec_blez (rs : RegNum) (offset : BitVec 16) : exec (.blez rs offset) s = execBlez rs offset s := rfl
theorem exec_bgtz (rs : RegNum) (offset : BitVec 16) : exec (.bgtz rs offset) s = execBgtz rs offset s := rfl
theorem exec_blezl (rs : RegNum) (offset : BitVec 16) : exec (.blezl rs offset) s = execBlezl rs offset s := rfl
theorem exec_bgtzl (rs : RegNum) (offset : BitVec 16) : exec (.bgtzl rs offset) s = execBgtzl rs offset s := rfl
theorem exec_bltz (rs : RegNum) (offset : BitVec 16) : exec (.bltz rs offset) s = execBltz rs offset s := rfl
theorem exec_bgez (rs : RegNum) (offset : BitVec 16) : exec (.bgez rs offset) s = execBgez rs offset s := rfl
theorem exec_bltzl (rs : RegNum) (offset : BitVec 16) : exec (.bltzl rs offset) s = execBltzl rs offset s := rfl
theorem exec_bgezl (rs : RegNum) (offset : BitVec 16) : exec (.bgezl rs offset) s = execBgezl rs offset s := rfl
theorem exec_bltzal (rs : RegNum) (offset : BitVec 16) : exec (.bltzal rs offset) s = execBltzal rs offset s := rfl
theorem exec_bgezal (rs : RegNum) (offset : BitVec 16) : exec (.bgezal rs offset) s = execBgezal rs offset s := rfl
theorem exec_bltzall (rs : RegNum) (offset : BitVec 16) : exec (.bltzall rs offset) s = execBltzall rs offset s := rfl
theorem exec_bgezall (rs : RegNum) (offset : BitVec 16) : exec (.bgezall rs offset) s = execBgezall rs offset s := rfl
theorem exec_tgei (rs : RegNum) (imm : BitVec 16) : exec (.tgei rs imm) s = execTgei rs imm s := rfl
theorem exec_tgeiu (rs : RegNum) (imm : BitVec 16) : exec (.tgeiu rs imm) s = execTgeiu rs imm s := rfl
theorem exec_tlti (rs : RegNum) (imm : BitVec 16) : exec (.tlti rs imm) s = execTlti rs imm s := rfl
theorem exec_tltiu (rs : RegNum) (imm : BitVec 16) : exec (.tltiu rs imm) s = execTltiu rs imm s := rfl
theorem exec_teqi (rs : RegNum) (imm : BitVec 16) : exec (.teqi rs imm) s = execTeqi rs imm s := rfl
theorem exec_tnei (rs : RegNum) (imm : BitVec 16) : exec (.tnei rs imm) s = execTnei rs imm s := rfl
theorem exec_j (target : BitVec 26) : exec (.j target) s = execJ target s := rfl
theorem exec_jal (target : BitVec 26) : exec (.jal target) s = execJal target s := rfl
theorem exec_add (rs rt rd : RegNum) : exec (.add rs rt rd) s = execAdd rs rt rd s := rfl
theorem exec_addu (rs rt rd : RegNum) : exec (.addu rs rt rd) s = execAddu rs rt rd s := rfl
theorem exec_sub (rs rt rd : RegNum) : exec (.sub rs rt rd) s = execSub rs rt rd s := rfl
theorem exec_subu (rs rt rd : RegNum) : exec (.subu rs rt rd) s = execSubu rs rt rd s := rfl
theorem exec_and (rs rt rd : RegNum) : exec (.and rs rt rd) s = execAnd rs rt rd s := rfl
theorem exec_or (rs rt rd : RegNum) : exec (.or rs rt rd) s = execOr rs rt rd s := rfl
theorem exec_xor (rs rt rd : RegNum) : exec (.xor rs rt rd) s = execXor rs rt rd s := rfl
theorem exec_nor (rs rt rd : RegNum) : exec (.nor rs rt rd) s = execNor rs rt rd s := rfl
theorem exec_slt (rs rt rd : RegNum) : exec (.slt rs rt rd) s = execSlt rs rt rd s := rfl
theorem exec_sltu (rs rt rd : RegNum) : exec (.sltu rs rt rd) s = execSltu rs rt rd s := rfl
theorem exec_dadd (rs rt rd : RegNum) : exec (.dadd rs rt rd) s = execDadd rs rt rd s := rfl
theorem exec_daddu (rs rt rd : RegNum) : exec (.daddu rs rt rd) s = execDaddu rs rt rd s := rfl
theorem exec_dsub (rs rt rd : RegNum) : exec (.dsub rs rt rd) s = execDsub rs rt rd s := rfl
theorem exec_dsubu (rs rt rd : RegNum) : exec (.dsubu rs rt rd) s = execDsubu rs rt rd s := rfl
theorem exec_movz (rs rt rd : RegNum) : exec (.movz rs rt rd) s = execMovz rs rt rd s := rfl
theorem exec_movn (rs rt rd : RegNum) : exec (.movn rs rt rd) s = execMovn rs rt rd s := rfl
theorem exec_sllv (rs rt rd : RegNum) : exec (.sllv rs rt rd) s = execSllv rs rt rd s := rfl
theorem exec_srav (rs rt rd : RegNum) : exec (.srav rs rt rd) s = execSrav rs rt rd s := rfl
theorem exec_dsllv (rs rt rd : RegNum) : exec (.dsllv rs rt rd) s = execDsllv rs rt rd s := rfl
theorem exec_dsrav (rs rt rd : RegNum) : exec (.dsrav rs rt rd) s = execDsrav rs rt rd s := rfl
theorem exec_srlv (rs rt rd : RegNum) : exec (.srlv rs rt rd) s = execSrlv rs rt rd s := rfl
theorem exec_rorv (rs rt rd : RegNum) : exec (.rorv rs rt rd) s = execRorv rs rt rd s := rfl
theorem exec_dsrlv (rs rt rd : RegNum) : exec (.dsrlv rs rt rd) s = execDsrlv rs rt rd s := rfl
theorem exec_drorv (rs rt rd : RegNum) : exec (.drorv rs rt rd) s = execDrorv rs rt rd s := rfl
theorem exec_ssnop : exec .ssnop s = execSsnop s := rfl
theorem exec_sll (rt rd : RegNum) (sa : BitVec 5) : exec (.sll rt rd sa) s = execSll rt rd sa s := rfl
theorem exec_sra (rt rd : RegNum) (sa : BitVec 5) : exec (.sra rt rd sa) s = execSra rt rd sa s := rfl
theorem exec_dsll (rt rd : RegNum) (sa : BitVec 5) : exec (.dsll rt rd sa) s = execDsll rt rd sa s := rfl
theorem exec_dsra (rt rd : RegNum) (sa : BitVec 5) : exec (.dsra rt rd sa) s = execDsra rt rd sa s := rfl
theorem exec_dsll32 (rt rd : RegNum) (sa : BitVec 5) : exec (.dsll32 rt rd sa) s = execDsll32 rt rd sa s := rfl
theorem exec_dsra32 (rt rd : RegNum) (sa : BitVec 5) : exec (.dsra32 rt rd sa) s = execDsra32 rt rd sa s := rfl
theorem exec_srl (rt rd : RegNum) (sa : BitVec 5) : exec (.srl rt rd sa) s = execSrl rt rd sa s := rfl
theorem exec_ror (rt rd : RegNum) (sa : BitVec 5) : exec (.ror rt rd sa) s = execRor rt rd sa s := rfl
theorem exec_dsrl (rt rd : RegNum) (sa : BitVec 5) : exec (.dsrl rt rd sa) s = execDsrl rt rd sa s := rfl
theorem exec_dror (rt rd : RegNum) (sa : BitVec 5) : exec (.dror rt rd sa) s = execDror rt rd sa s := rfl
theorem exec_dsrl32 (rt rd : RegNum) (sa : BitVec 5) : exec (.dsrl32 rt rd sa) s = execDsrl32 rt rd sa s := rfl
theorem exec_dror32 (rt rd : RegNum) (sa : BitVec 5) : exec (.dror32 rt rd sa) s = execDror32 rt rd sa s := rfl
theorem exec_movf (rs : RegNum) (cc : BitVec 3) (rd : RegNum) : exec (.movf rs cc rd) s = execMovf rs cc rd s := rfl
theorem exec_movt (rs : RegNum) (cc : BitVec 3) (rd : RegNum) : exec (.movt rs cc rd) s = execMovt rs cc rd s := rfl
theorem exec_jr (rs : RegNum) : exec (.jr rs) s = execJr rs s := rfl
theorem exec_jalr (rs rd : RegNum) : exec (.jalr rs rd) s = execJalr rs rd s := rfl
theorem exec_syscall (code : BitVec 20) : exec (.syscall code) s = execSyscall code s := rfl
theorem exec_breakpoint (code : BitVec 20) : exec (.breakpoint code) s = execBreakpoint code s := rfl
theorem exec_sync (stype : BitVec 5) : exec (.sync stype) s = execSync stype s := rfl
theorem exec_mfhi (rd : RegNum) : exec (.mfhi rd) s = execMfhi rd s := rfl
theorem exec_mthi (rs : RegNum) : exec (.mthi rs) s = execMthi rs s := rfl
theorem exec_mflo (rd : RegNum) : exec (.mflo rd) s = execMflo rd s := rfl
theorem exec_mtlo (rs : RegNum) : exec (.mtlo rs) s = execMtlo rs s := rfl
theorem exec_mult (rs rt : RegNum) : exec (.mult rs rt) s = execMult rs rt s := rfl
theorem exec_multu (rs rt : RegNum) : exec (.multu rs rt) s = execMultu rs rt s := rfl
theorem exec_div (rs rt : RegNum) : exec (.div rs rt) s = execDiv rs rt s := rfl
theorem exec_divu (rs rt : RegNum) : exec (.divu rs rt) s = execDivu rs rt s := rfl
theorem exec_dmult (rs rt : RegNum) : exec (.dmult rs rt) s = execDmult rs rt s := rfl
theorem exec_dmultu (rs rt : RegNum) : exec (.dmultu rs rt) s = execDmultu rs rt s := rfl
theorem exec_ddiv (rs rt : RegNum) : exec (.ddiv rs rt) s = execDdiv rs rt s := rfl
theorem exec_ddivu (rs rt : RegNum) : exec (.ddivu rs rt) s = execDdivu rs rt s := rfl
theorem exec_mul (rs rt rd : RegNum) : exec (.mul rs rt rd) s = execMul rs rt rd s := rfl
theorem exec_mulu (rs rt rd : RegNum) : exec (.mulu rs rt rd) s = execMulu rs rt rd s := rfl
theorem exec_muls (rs rt rd : RegNum) : exec (.muls rs rt rd) s = execMuls rs rt rd s := rfl
theorem exec_mulsu (rs rt rd : RegNum) : exec (.mulsu rs rt rd) s = execMulsu rs rt rd s := rfl
theorem exec_macc (rs rt rd : RegNum) : exec (.macc rs rt rd) s = execMacc rs rt rd s := rfl
theorem exec_maccu (rs rt rd : RegNum) : exec (.maccu rs rt rd) s = execMaccu rs rt rd s := rfl
theorem exec_msac (rs rt rd : RegNum) : exec (.msac rs rt rd) s = execMsac rs rt rd s := rfl
theorem exec_msacu (rs rt rd : RegNum) : exec (.msacu rs rt rd) s = execMsacu rs rt rd s := rfl
theorem exec_mulhi (rs rt rd : RegNum) : exec (.mulhi rs rt rd) s = execMulhi rs rt rd s := rfl
theorem exec_mulhiu (rs rt rd : RegNum) : exec (.mulhiu rs rt rd) s = execMulhiu rs rt rd s := rfl
theorem exec_mulshi (rs rt rd : RegNum) : exec (.mulshi rs rt rd) s = execMulshi rs rt rd s := rfl
theorem exec_mulshiu (rs rt rd : RegNum) : exec (.mulshiu rs rt rd) s = execMulshiu rs rt rd s := rfl
theorem exec_macchi (rs rt rd : RegNum) : exec (.macchi rs rt rd) s = execMacchi rs rt rd s := rfl
theorem exec_macchiu (rs rt rd : RegNum) : exec (.macchiu rs rt rd) s = execMacchiu rs rt rd s := rfl
theorem exec_msachi (rs rt rd : RegNum) : exec (.msachi rs rt rd) s = execMsachi rs rt rd s := rfl
theorem exec_msachiu (rs rt rd : RegNum) : exec (.msachiu rs rt rd) s = execMsachiu rs rt rd s := rfl
theorem exec_tge (rs rt : RegNum) (code : BitVec 10) : exec (.tge rs rt code) s = execTge rs rt code s := rfl
theorem exec_tgeu (rs rt : RegNum) (code : BitVec 10) : exec (.tgeu rs rt code) s = execTgeu rs rt code s := rfl
theorem exec_tlt (rs rt : RegNum) (code : BitVec 10) : exec (.tlt rs rt code) s = execTlt rs rt code s := rfl
theorem exec_tltu (rs rt : RegNum) (code : BitVec 10) : exec (.tltu rs rt code) s = execTltu rs rt code s := rfl
theorem exec_teq (rs rt : RegNum) (code : BitVec 10) : exec (.teq rs rt code) s = execTeq rs rt code s := rfl
theorem exec_tne (rs rt : RegNum) (code : BitVec 10) : exec (.tne rs rt code) s = execTne rs rt code s := rfl
theorem exec_madd (rs rt : RegNum) : exec (.madd rs rt) s = execMadd rs rt s := rfl
theorem exec_maddu (rs rt : RegNum) : exec (.maddu rs rt) s = execMaddu rs rt s := rfl
theorem exec_msub (rs rt : RegNum) : exec (.msub rs rt) s = execMsub rs rt s := rfl
theorem exec_msubu (rs rt : RegNum) : exec (.msubu rs rt) s = execMsubu rs rt s := rfl
theorem exec_mul64 (rs rt rd : RegNum) : exec (.mul64 rs rt rd) s = execMul64 rs rt rd s := rfl
theorem exec_clz (rs rd : RegNum) : exec (.clz rs rd) s = execClz rs rd s := rfl
theorem exec_clo (rs rd : RegNum) : exec (.clo rs rd) s = execClo rs rd s := rfl
theorem exec_dclz (rs rd : RegNum) : exec (.dclz rs rd) s = execDclz rs rd s := rfl
theorem exec_dclo (rs rd : RegNum) : exec (.dclo rs rd) s = execDclo rs rd s := rfl
theorem exec_mfpc (rt : RegNum) (reg : BitVec 5) : exec (.mfpc rt reg) s = execMfpc rt reg s := rfl
theorem exec_mfps (rt : RegNum) (reg : BitVec 5) : exec (.mfps rt reg) s = execMfps rt reg s := rfl
theorem exec_mtpc (rt : RegNum) (reg : BitVec 5) : exec (.mtpc rt reg) s = execMtpc rt reg s := rfl
theorem exec_mtps (rt : RegNum) (reg : BitVec 5) : exec (.mtps rt reg) s = execMtps rt reg s := rfl
theorem exec_mfc0 (rt rd : RegNum) : exec (.mfc0 rt rd) s = execMfc0 rt rd s := rfl
theorem exec_dmfc0 (rt rd : RegNum) : exec (.dmfc0 rt rd) s = execDmfc0 rt rd s := rfl
theorem exec_mtc0 (rt rd : RegNum) : exec (.mtc0 rt rd) s = execMtc0 rt rd s := rfl
theorem exec_dmtc0 (rt rd : RegNum) : exec (.dmtc0 rt rd) s = execDmtc0 rt rd s := rfl
theorem exec_bc0f (offset : BitVec 16) : exec (.bc0f offset) s = execBc0f offset s := rfl
theorem exec_bc0t (offset : BitVec 16) : exec (.bc0t offset) s = execBc0t offset s := rfl
theorem exec_bc0fl (offset : BitVec 16) : exec (.bc0fl offset) s = execBc0fl offset s := rfl
theorem exec_bc0tl (offset : BitVec 16) : exec (.bc0tl offset) s = execBc0tl offset s := rfl
theorem exec_tlbr : exec .tlbr s = execTlbr s := rfl
theorem exec_tlbwi : exec .tlbwi s = execTlbwi s := rfl
theorem exec_tlbwr : exec .tlbwr s = execTlbwr s := rfl
theorem exec_tlbp : exec .tlbp s = execTlbp s := rfl
theorem exec_eret : exec .eret s = execEret s := rfl
theorem exec_wait (code : BitVec 19) : exec (.wait code) s = execWait code s := rfl
theorem exec_mfc1 (rt : RegNum) (fs : FprNum) : exec (.mfc1 rt fs) s = execMfc1 rt fs s := rfl
theorem exec_dmfc1 (rt : RegNum) (fs : FprNum) : exec (.dmfc1 rt fs) s = execDmfc1 rt fs s := rfl
theorem exec_cfc1 (rt : RegNum) (fs : FprNum) : exec (.cfc1 rt fs) s = execCfc1 rt fs s := rfl
theorem exec_mtc1 (rt : RegNum) (fs : FprNum) : exec (.mtc1 rt fs) s = execMtc1 rt fs s := rfl
theorem exec_dmtc1 (rt : RegNum) (fs : FprNum) : exec (.dmtc1 rt fs) s = execDmtc1 rt fs s := rfl
theorem exec_ctc1 (rt : RegNum) (fs : FprNum) : exec (.ctc1 rt fs) s = execCtc1 rt fs s := rfl
theorem exec_bc1f (cc : BitVec 3) (offset : BitVec 16) : exec (.bc1f cc offset) s = execBc1f cc offset s := rfl
theorem exec_bc1t (cc : BitVec 3) (offset : BitVec 16) : exec (.bc1t cc offset) s = execBc1t cc offset s := rfl
theorem exec_bc1fl (cc : BitVec 3) (offset : BitVec 16) : exec (.bc1fl cc offset) s = execBc1fl cc offset s := rfl
theorem exec_bc1tl (cc : BitVec 3) (offset : BitVec 16) : exec (.bc1tl cc offset) s = execBc1tl cc offset s := rfl
theorem exec_fpAddS (ft fs fd : FprNum) : exec (.fpAddS ft fs fd) s = execFpAddS ft fs fd s := rfl
theorem exec_fpAddD (ft fs fd : FprNum) : exec (.fpAddD ft fs fd) s = execFpAddD ft fs fd s := rfl
theorem exec_fpSubS (ft fs fd : FprNum) : exec (.fpSubS ft fs fd) s = execFpSubS ft fs fd s := rfl
theorem exec_fpSubD (ft fs fd : FprNum) : exec (.fpSubD ft fs fd) s = execFpSubD ft fs fd s := rfl
theorem exec_fpMulS (ft fs fd : FprNum) : exec (.fpMulS ft fs fd) s = execFpMulS ft fs fd s := rfl
theorem exec_fpMulD (ft fs fd : FprNum) : exec (.fpMulD ft fs fd) s = execFpMulD ft fs fd s := rfl
theorem exec_fpDivS (ft fs fd : FprNum) : exec (.fpDivS ft fs fd) s = execFpDivS ft fs fd s := rfl
theorem exec_fpDivD (ft fs fd : FprNum) : exec (.fpDivD ft fs fd) s = execFpDivD ft fs fd s := rfl
theorem exec_fpSqrtS (fs fd : FprNum) : exec (.fpSqrtS fs fd) s = execFpSqrtS fs fd s := rfl
theorem exec_fpSqrtD (fs fd : FprNum) : exec (.fpSqrtD fs fd) s = execFpSqrtD fs fd s := rfl
theorem exec_fpAbsS (fs fd : FprNum) : exec (.fpAbsS fs fd) s = execFpAbsS fs fd s := rfl
theorem exec_fpAbsD (fs fd : FprNum) : exec (.fpAbsD fs fd) s = execFpAbsD fs fd s := rfl
theorem exec_fpMovS (fs fd : FprNum) : exec (.fpMovS fs fd) s = execFpMovS fs fd s := rfl
theorem exec_fpMovD (fs fd : FprNum) : exec (.fpMovD fs fd) s = execFpMovD fs fd s := rfl
theorem exec_fpNegS (fs fd : FprNum) : exec (.fpNegS fs fd) s = execFpNegS fs fd s := rfl
theorem exec_fpNegD (fs fd : FprNum) : exec (.fpNegD fs fd) s = execFpNegD fs fd s := rfl
theorem exec_fpRoundLS (fs fd : FprNum) : exec (.fpRoundLS fs fd) s = execFpRoundLS fs fd s := rfl
theorem exec_fpRoundLD (fs fd : FprNum) : exec (.fpRoundLD fs fd) s = execFpRoundLD fs fd s := rfl
theorem exec_fpTruncLS (fs fd : FprNum) : exec (.fpTruncLS fs fd) s = execFpTruncLS fs fd s := rfl
theorem exec_fpTruncLD (fs fd : FprNum) : exec (.fpTruncLD fs fd) s = execFpTruncLD fs fd s := rfl
theorem exec_fpCeilLS (fs fd : FprNum) : exec (.fpCeilLS fs fd) s = execFpCeilLS fs fd s := rfl
theorem exec_fpCeilLD (fs fd : FprNum) : exec (.fpCeilLD fs fd) s = execFpCeilLD fs fd s := rfl
theorem exec_fpFloorLS (fs fd : FprNum) : exec (.fpFloorLS fs fd) s = execFpFloorLS fs fd s := rfl
theorem exec_fpFloorLD (fs fd : FprNum) : exec (.fpFloorLD fs fd) s = execFpFloorLD fs fd s := rfl
theorem exec_fpRoundWS (fs fd : FprNum) : exec (.fpRoundWS fs fd) s = execFpRoundWS fs fd s := rfl
theorem exec_fpRoundWD (fs fd : FprNum) : exec (.fpRoundWD fs fd) s = execFpRoundWD fs fd s := rfl
theorem exec_fpTruncWS (fs fd : FprNum) : exec (.fpTruncWS fs fd) s = execFpTruncWS fs fd s := rfl
theorem exec_fpTruncWD (fs fd : FprNum) : exec (.fpTruncWD fs fd) s = execFpTruncWD fs fd s := rfl
theorem exec_fpCeilWS (fs fd : FprNum) : exec (.fpCeilWS fs fd) s = execFpCeilWS fs fd s := rfl
theorem exec_fpCeilWD (fs fd : FprNum) : exec (.fpCeilWD fs fd) s = execFpCeilWD fs fd s := rfl
theorem exec_fpFloorWS (fs fd : FprNum) : exec (.fpFloorWS fs fd) s = execFpFloorWS fs fd s := rfl
theorem exec_fpFloorWD (fs fd : FprNum) : exec (.fpFloorWD fs fd) s = execFpFloorWD fs fd s := rfl
theorem exec_fpRecipS (fs fd : FprNum) : exec (.fpRecipS fs fd) s = execFpRecipS fs fd s := rfl
theorem exec_fpRecipD (fs fd : FprNum) : exec (.fpRecipD fs fd) s = execFpRecipD fs fd s := rfl
theorem exec_fpRsqrtS (fs fd : FprNum) : exec (.fpRsqrtS fs fd) s = execFpRsqrtS fs fd s := rfl
theorem exec_fpRsqrtD (fs fd : FprNum) : exec (.fpRsqrtD fs fd) s = execFpRsqrtD fs fd s := rfl
theorem exec_fpCvtWS (fs fd : FprNum) : exec (.fpCvtWS fs fd) s = execFpCvtWS fs fd s := rfl
theorem exec_fpCvtWD (fs fd : FprNum) : exec (.fpCvtWD fs fd) s = execFpCvtWD fs fd s := rfl
theorem exec_fpCvtLS (fs fd : FprNum) : exec (.fpCvtLS fs fd) s = execFpCvtLS fs fd s := rfl
theorem exec_fpCvtLD (fs fd : FprNum) : exec (.fpCvtLD fs fd) s = execFpCvtLD fs fd s := rfl
theorem exec_fpCvtSD (fs fd : FprNum) : exec (.fpCvtSD fs fd) s = execFpCvtSD fs fd s := rfl
theorem exec_fpCvtSW (fs fd : FprNum) : exec (.fpCvtSW fs fd) s = execFpCvtSW fs fd s := rfl
theorem exec_fpCvtSL (fs fd : FprNum) : exec (.fpCvtSL fs fd) s = execFpCvtSL fs fd s := rfl
theorem exec_fpCvtDS (fs fd : FprNum) : exec (.fpCvtDS fs fd) s = execFpCvtDS fs fd s := rfl
theorem exec_fpCvtDW (fs fd : FprNum) : exec (.fpCvtDW fs fd) s = execFpCvtDW fs fd s := rfl
theorem exec_fpCvtDL (fs fd : FprNum) : exec (.fpCvtDL fs fd) s = execFpCvtDL fs fd s := rfl
theorem exec_fpMovfS (cc : BitVec 3) (fs fd : FprNum) : exec (.fpMovfS cc fs fd) s = execFpMovfS cc fs fd s := rfl
theorem exec_fpMovfD (cc : BitVec 3) (fs fd : FprNum) : exec (.fpMovfD cc fs fd) s = execFpMovfD cc fs fd s := rfl
theorem exec_fpMovtS (cc : BitVec 3) (fs fd : FprNum) : exec (.fpMovtS cc fs fd) s = execFpMovtS cc fs fd s := rfl
theorem exec_fpMovtD (cc : BitVec 3) (fs fd : FprNum) : exec (.fpMovtD cc fs fd) s = execFpMovtD cc fs fd s := rfl
theorem exec_fpMovzS (rt : RegNum) (fs fd : FprNum) : exec (.fpMovzS rt fs fd) s = execFpMovzS rt fs fd s := rfl
theorem exec_fpMovzD (rt : RegNum) (fs fd : FprNum) : exec (.fpMovzD rt fs fd) s = execFpMovzD rt fs fd s := rfl
theorem exec_fpMovnS (rt : RegNum) (fs fd : FprNum) : exec (.fpMovnS rt fs fd) s = execFpMovnS rt fs fd s := rfl
theorem exec_fpMovnD (rt : RegNum) (fs fd : FprNum) : exec (.fpMovnD rt fs fd) s = execFpMovnD rt fs fd s := rfl
theorem exec_fpCFS (ft fs : FprNum) (cc : BitVec 3) : exec (.fpCFS ft fs cc) s = execFpCFS ft fs cc s := rfl
theorem exec_fpCFD (ft fs : FprNum) (cc : BitVec 3) : exec (.fpCFD ft fs cc) s = execFpCFD ft fs cc s := rfl
theorem exec_fpCUnS (ft fs : FprNum) (cc : BitVec 3) : exec (.fpCUnS ft fs cc) s = execFpCUnS ft fs cc s := rfl
theorem exec_fpCUnD (ft fs : FprNum) (cc : BitVec 3) : exec (.fpCUnD ft fs cc) s = execFpCUnD ft fs cc s := rfl
theorem exec_fpCEqS (ft fs : FprNum) (cc : BitVec 3) : exec (.fpCEqS ft fs cc) s = execFpCEqS ft fs cc s := rfl
theorem exec_fpCEqD (ft fs : FprNum) (cc : BitVec 3) : exec (.fpCEqD ft fs cc) s = execFpCEqD ft fs cc s := rfl
theorem exec_fpCUeqS (ft fs : FprNum) (cc : BitVec 3) : exec (.fpCUeqS ft fs cc) s = execFpCUeqS ft fs cc s := rfl
theorem exec_fpCUeqD (ft fs : FprNum) (cc : BitVec 3) : exec (.fpCUeqD ft fs cc) s = execFpCUeqD ft fs cc s := rfl
theorem exec_fpCOltS (ft fs : FprNum) (cc : BitVec 3) : exec (.fpCOltS ft fs cc) s = execFpCOltS ft fs cc s := rfl
theorem exec_fpCOltD (ft fs : FprNum) (cc : BitVec 3) : exec (.fpCOltD ft fs cc) s = execFpCOltD ft fs cc s := rfl
theorem exec_fpCUltS (ft fs : FprNum) (cc : BitVec 3) : exec (.fpCUltS ft fs cc) s = execFpCUltS ft fs cc s := rfl
theorem exec_fpCUltD (ft fs : FprNum) (cc : BitVec 3) : exec (.fpCUltD ft fs cc) s = execFpCUltD ft fs cc s := rfl
theorem exec_fpCOleS (ft fs : FprNum) (cc : BitVec 3) : exec (.fpCOleS ft fs cc) s = execFpCOleS ft fs cc s := rfl
theorem exec_fpCOleD (ft fs : FprNum) (cc : BitVec 3) : exec (.fpCOleD ft fs cc) s = execFpCOleD ft fs cc s := rfl
theorem exec_fpCUleS (ft fs : FprNum) (cc : BitVec 3) : exec (.fpCUleS ft fs cc) s = execFpCUleS ft fs cc s := rfl
theorem exec_fpCUleD (ft fs : FprNum) (cc : BitVec 3) : exec (.fpCUleD ft fs cc) s = execFpCUleD ft fs cc s := rfl
theorem exec_fpCSfS (ft fs : FprNum) (cc : BitVec 3) : exec (.fpCSfS ft fs cc) s = execFpCSfS ft fs cc s := rfl
theorem exec_fpCSfD (ft fs : FprNum) (cc : BitVec 3) : exec (.fpCSfD ft fs cc) s = execFpCSfD ft fs cc s := rfl
theorem exec_fpCNgleS (ft fs : FprNum) (cc : BitVec 3) : exec (.fpCNgleS ft fs cc) s = execFpCNgleS ft fs cc s := rfl
theorem exec_fpCNgleD (ft fs : FprNum) (cc : BitVec 3) : exec (.fpCNgleD ft fs cc) s = execFpCNgleD ft fs cc s := rfl
theorem exec_fpCSeqS (ft fs : FprNum) (cc : BitVec 3) : exec (.fpCSeqS ft fs cc) s = execFpCSeqS ft fs cc s := rfl
theorem exec_fpCSeqD (ft fs : FprNum) (cc : BitVec 3) : exec (.fpCSeqD ft fs cc) s = execFpCSeqD ft fs cc s := rfl
theorem exec_fpCNglS (ft fs : FprNum) (cc : BitVec 3) : exec (.fpCNglS ft fs cc) s = execFpCNglS ft fs cc s := rfl
theorem exec_fpCNglD (ft fs : FprNum) (cc : BitVec 3) : exec (.fpCNglD ft fs cc) s = execFpCNglD ft fs cc s := rfl
theorem exec_fpCLtS (ft fs : FprNum) (cc : BitVec 3) : exec (.fpCLtS ft fs cc) s = execFpCLtS ft fs cc s := rfl
theorem exec_fpCLtD (ft fs : FprNum) (cc : BitVec 3) : exec (.fpCLtD ft fs cc) s = execFpCLtD ft fs cc s := rfl
theorem exec_fpCNgeS (ft fs : FprNum) (cc : BitVec 3) : exec (.fpCNgeS ft fs cc) s = execFpCNgeS ft fs cc s := rfl
theorem exec_fpCNgeD (ft fs : FprNum) (cc : BitVec 3) : exec (.fpCNgeD ft fs cc) s = execFpCNgeD ft fs cc s := rfl
theorem exec_fpCLeS (ft fs : FprNum) (cc : BitVec 3) : exec (.fpCLeS ft fs cc) s = execFpCLeS ft fs cc s := rfl
theorem exec_fpCLeD (ft fs : FprNum) (cc : BitVec 3) : exec (.fpCLeD ft fs cc) s = execFpCLeD ft fs cc s := rfl
theorem exec_fpCNgtS (ft fs : FprNum) (cc : BitVec 3) : exec (.fpCNgtS ft fs cc) s = execFpCNgtS ft fs cc s := rfl
theorem exec_fpCNgtD (ft fs : FprNum) (cc : BitVec 3) : exec (.fpCNgtD ft fs cc) s = execFpCNgtD ft fs cc s := rfl
theorem exec_lwxc1 (base index : RegNum) (fd : FprNum) :
    exec (.lwxc1 base index fd) s = execLwxc1 base index fd s := rfl
theorem exec_ldxc1 (base index : RegNum) (fd : FprNum) :
    exec (.ldxc1 base index fd) s = execLdxc1 base index fd s := rfl
theorem exec_luxc1 (base index : RegNum) (fd : FprNum) :
    exec (.luxc1 base index fd) s = execLuxc1 base index fd s := rfl
theorem exec_swxc1 (base index : RegNum) (fs : FprNum) :
    exec (.swxc1 base index fs) s = execSwxc1 base index fs s := rfl
theorem exec_sdxc1 (base index : RegNum) (fs : FprNum) :
    exec (.sdxc1 base index fs) s = execSdxc1 base index fs s := rfl
theorem exec_suxc1 (base index : RegNum) (fs : FprNum) :
    exec (.suxc1 base index fs) s = execSuxc1 base index fs s := rfl
theorem exec_prefx (base index : RegNum) (hint : BitVec 5) :
    exec (.prefx base index hint) s = execPrefx base index hint s := rfl
theorem exec_fpMaddS (fr ft fs fd : FprNum) : exec (.fpMaddS fr ft fs fd) s = execFpMaddS fr ft fs fd s := rfl
theorem exec_fpMaddD (fr ft fs fd : FprNum) : exec (.fpMaddD fr ft fs fd) s = execFpMaddD fr ft fs fd s := rfl
theorem exec_fpMsubS (fr ft fs fd : FprNum) : exec (.fpMsubS fr ft fs fd) s = execFpMsubS fr ft fs fd s := rfl
theorem exec_fpMsubD (fr ft fs fd : FprNum) : exec (.fpMsubD fr ft fs fd) s = execFpMsubD fr ft fs fd s := rfl
theorem exec_fpNmaddS (fr ft fs fd : FprNum) : exec (.fpNmaddS fr ft fs fd) s = execFpNmaddS fr ft fs fd s := rfl
theorem exec_fpNmaddD (fr ft fs fd : FprNum) : exec (.fpNmaddD fr ft fs fd) s = execFpNmaddD fr ft fs fd s := rfl
theorem exec_fpNmsubS (fr ft fs fd : FprNum) : exec (.fpNmsubS fr ft fs fd) s = execFpNmsubS fr ft fs fd s := rfl
theorem exec_fpNmsubD (fr ft fs fd : FprNum) : exec (.fpNmsubD fr ft fs fd) s = execFpNmsubD fr ft fs fd s := rfl

end Sys2Proof.Machine
end

