-- ==== Sys2Proof/Laws/State.lean ====
section
/-! SUPPORT. One lemma for each field and each named update of the state (`field_update`), and the same for what is read
through an accessor. -/

namespace Sys2Proof.Machine

variable (s : State)

/-! ## `setReg` -/

@[simp] theorem State.pc_setReg (r : RegNum) (v : Dword) : (s.setReg r v).pc = s.pc := by
  unfold State.setReg; split <;> rfl
@[simp] theorem State.npc_setReg (r : RegNum) (v : Dword) : (s.setReg r v).npc = s.npc := by
  unfold State.setReg; split <;> rfl
@[simp] theorem State.inDelay_setReg (r : RegNum) (v : Dword) : (s.setReg r v).inDelay = s.inDelay := by
  unfold State.setReg; split <;> rfl
@[simp] theorem State.jrSlot_setReg (r : RegNum) (v : Dword) : (s.setReg r v).jrSlot = s.jrSlot := by
  unfold State.setReg; split <;> rfl
@[simp] theorem State.jrTarget_setReg (r : RegNum) (v : Dword) : (s.setReg r v).jrTarget = s.jrTarget := by
  unfold State.setReg; split <;> rfl
@[simp] theorem State.hi_setReg (r : RegNum) (v : Dword) : (s.setReg r v).hi = s.hi := by
  unfold State.setReg; split <;> rfl
@[simp] theorem State.lo_setReg (r : RegNum) (v : Dword) : (s.setReg r v).lo = s.lo := by
  unfold State.setReg; split <;> rfl
@[simp] theorem State.hiLoFresh_setReg (r : RegNum) (v : Dword) : (s.setReg r v).hiLoFresh = s.hiLoFresh := by
  unfold State.setReg; split <;> rfl
@[simp] theorem State.cp0_setReg (r : RegNum) (v : Dword) : (s.setReg r v).cp0 = s.cp0 := by
  unfold State.setReg; split <;> rfl
@[simp] theorem State.llBit_setReg (r : RegNum) (v : Dword) : (s.setReg r v).llBit = s.llBit := by
  unfold State.setReg; split <;> rfl
@[simp] theorem State.linkAddr_setReg (r : RegNum) (v : Dword) : (s.setReg r v).linkAddr = s.linkAddr := by
  unfold State.setReg; split <;> rfl
@[simp] theorem State.llDisturbed_setReg (r : RegNum) (v : Dword) : (s.setReg r v).llDisturbed = s.llDisturbed := by
  unfold State.setReg; split <;> rfl
@[simp] theorem State.tlb_setReg (r : RegNum) (v : Dword) : (s.setReg r v).tlb = s.tlb := by
  unfold State.setReg; split <;> rfl
@[simp] theorem State.fpr_setReg (r : RegNum) (v : Dword) : (s.setReg r v).fpr = s.fpr := by
  unfold State.setReg; split <;> rfl
@[simp] theorem State.fcr31_setReg (r : RegNum) (v : Dword) : (s.setReg r v).fcr31 = s.fcr31 := by
  unfold State.setReg; split <;> rfl
@[simp] theorem State.runState_setReg (r : RegNum) (v : Dword) : (s.setReg r v).runState = s.runState := by
  unfold State.setReg; split <;> rfl
@[simp] theorem State.pins_setReg (r : RegNum) (v : Dword) : (s.setReg r v).pins = s.pins := by
  unfold State.setReg; split <;> rfl
@[simp] theorem State.inputs_setReg (r : RegNum) (v : Dword) : (s.setReg r v).inputs = s.inputs := by
  unfold State.setReg; split <;> rfl
@[simp] theorem State.mem_setReg (r : RegNum) (v : Dword) : (s.setReg r v).mem = s.mem := by
  unfold State.setReg; split <;> rfl
@[simp] theorem State.freeCount_setReg (r : RegNum) (v : Dword) : (s.setReg r v).freeCount = s.freeCount := by
  unfold State.setReg; split <;> rfl
@[simp] theorem State.raised_setReg (r : RegNum) (v : Dword) : (s.setReg r v).raised = s.raised := by
  unfold State.setReg; split <;> rfl
@[simp] theorem State.env_setReg (r : RegNum) (v : Dword) : (s.setReg r v).env = s.env := by
  unfold State.setReg; split <;> rfl

/-! ## `setHiLo` -/

@[simp] theorem State.pc_setHiLo (h l : Dword) : (s.setHiLo h l).pc = s.pc := rfl
@[simp] theorem State.npc_setHiLo (h l : Dword) : (s.setHiLo h l).npc = s.npc := rfl
@[simp] theorem State.inDelay_setHiLo (h l : Dword) : (s.setHiLo h l).inDelay = s.inDelay := rfl
@[simp] theorem State.jrSlot_setHiLo (h l : Dword) : (s.setHiLo h l).jrSlot = s.jrSlot := rfl
@[simp] theorem State.jrTarget_setHiLo (h l : Dword) : (s.setHiLo h l).jrTarget = s.jrTarget := rfl
@[simp] theorem State.gpr_setHiLo (h l : Dword) : (s.setHiLo h l).gpr = s.gpr := rfl
@[simp] theorem State.hi_setHiLo (h l : Dword) : (s.setHiLo h l).hi = h := rfl
@[simp] theorem State.lo_setHiLo (h l : Dword) : (s.setHiLo h l).lo = l := rfl
@[simp] theorem State.hiLoFresh_setHiLo (h l : Dword) : (s.setHiLo h l).hiLoFresh = s.hiLoFresh := rfl
@[simp] theorem State.cp0_setHiLo (h l : Dword) : (s.setHiLo h l).cp0 = s.cp0 := rfl
@[simp] theorem State.llBit_setHiLo (h l : Dword) : (s.setHiLo h l).llBit = s.llBit := rfl
@[simp] theorem State.linkAddr_setHiLo (h l : Dword) : (s.setHiLo h l).linkAddr = s.linkAddr := rfl
@[simp] theorem State.llDisturbed_setHiLo (h l : Dword) : (s.setHiLo h l).llDisturbed = s.llDisturbed := rfl
@[simp] theorem State.tlb_setHiLo (h l : Dword) : (s.setHiLo h l).tlb = s.tlb := rfl
@[simp] theorem State.fpr_setHiLo (h l : Dword) : (s.setHiLo h l).fpr = s.fpr := rfl
@[simp] theorem State.fcr31_setHiLo (h l : Dword) : (s.setHiLo h l).fcr31 = s.fcr31 := rfl
@[simp] theorem State.runState_setHiLo (h l : Dword) : (s.setHiLo h l).runState = s.runState := rfl
@[simp] theorem State.pins_setHiLo (h l : Dword) : (s.setHiLo h l).pins = s.pins := rfl
@[simp] theorem State.inputs_setHiLo (h l : Dword) : (s.setHiLo h l).inputs = s.inputs := rfl
@[simp] theorem State.mem_setHiLo (h l : Dword) : (s.setHiLo h l).mem = s.mem := rfl
@[simp] theorem State.freeCount_setHiLo (h l : Dword) : (s.setHiLo h l).freeCount = s.freeCount := rfl
@[simp] theorem State.raised_setHiLo (h l : Dword) : (s.setHiLo h l).raised = s.raised := rfl
@[simp] theorem State.env_setHiLo (h l : Dword) : (s.setHiLo h l).env = s.env := rfl

/-! ## `setHiLoFresh` -/

@[simp] theorem State.pc_setHiLoFresh (b : Bool) : (s.setHiLoFresh b).pc = s.pc := rfl
@[simp] theorem State.npc_setHiLoFresh (b : Bool) : (s.setHiLoFresh b).npc = s.npc := rfl
@[simp] theorem State.inDelay_setHiLoFresh (b : Bool) : (s.setHiLoFresh b).inDelay = s.inDelay := rfl
@[simp] theorem State.jrSlot_setHiLoFresh (b : Bool) : (s.setHiLoFresh b).jrSlot = s.jrSlot := rfl
@[simp] theorem State.jrTarget_setHiLoFresh (b : Bool) : (s.setHiLoFresh b).jrTarget = s.jrTarget := rfl
@[simp] theorem State.gpr_setHiLoFresh (b : Bool) : (s.setHiLoFresh b).gpr = s.gpr := rfl
@[simp] theorem State.hi_setHiLoFresh (b : Bool) : (s.setHiLoFresh b).hi = s.hi := rfl
@[simp] theorem State.lo_setHiLoFresh (b : Bool) : (s.setHiLoFresh b).lo = s.lo := rfl
@[simp] theorem State.hiLoFresh_setHiLoFresh (b : Bool) : (s.setHiLoFresh b).hiLoFresh = b := rfl
@[simp] theorem State.cp0_setHiLoFresh (b : Bool) : (s.setHiLoFresh b).cp0 = s.cp0 := rfl
@[simp] theorem State.llBit_setHiLoFresh (b : Bool) : (s.setHiLoFresh b).llBit = s.llBit := rfl
@[simp] theorem State.linkAddr_setHiLoFresh (b : Bool) : (s.setHiLoFresh b).linkAddr = s.linkAddr := rfl
@[simp] theorem State.llDisturbed_setHiLoFresh (b : Bool) : (s.setHiLoFresh b).llDisturbed = s.llDisturbed := rfl
@[simp] theorem State.tlb_setHiLoFresh (b : Bool) : (s.setHiLoFresh b).tlb = s.tlb := rfl
@[simp] theorem State.fpr_setHiLoFresh (b : Bool) : (s.setHiLoFresh b).fpr = s.fpr := rfl
@[simp] theorem State.fcr31_setHiLoFresh (b : Bool) : (s.setHiLoFresh b).fcr31 = s.fcr31 := rfl
@[simp] theorem State.runState_setHiLoFresh (b : Bool) : (s.setHiLoFresh b).runState = s.runState := rfl
@[simp] theorem State.pins_setHiLoFresh (b : Bool) : (s.setHiLoFresh b).pins = s.pins := rfl
@[simp] theorem State.inputs_setHiLoFresh (b : Bool) : (s.setHiLoFresh b).inputs = s.inputs := rfl
@[simp] theorem State.mem_setHiLoFresh (b : Bool) : (s.setHiLoFresh b).mem = s.mem := rfl
@[simp] theorem State.freeCount_setHiLoFresh (b : Bool) : (s.setHiLoFresh b).freeCount = s.freeCount := rfl
@[simp] theorem State.raised_setHiLoFresh (b : Bool) : (s.setHiLoFresh b).raised = s.raised := rfl
@[simp] theorem State.env_setHiLoFresh (b : Bool) : (s.setHiLoFresh b).env = s.env := rfl

/-! ## `setCp0` -/

@[simp] theorem State.pc_setCp0 (c : Cp0) : (s.setCp0 c).pc = s.pc := rfl
@[simp] theorem State.npc_setCp0 (c : Cp0) : (s.setCp0 c).npc = s.npc := rfl
@[simp] theorem State.inDelay_setCp0 (c : Cp0) : (s.setCp0 c).inDelay = s.inDelay := rfl
@[simp] theorem State.jrSlot_setCp0 (c : Cp0) : (s.setCp0 c).jrSlot = s.jrSlot := rfl
@[simp] theorem State.jrTarget_setCp0 (c : Cp0) : (s.setCp0 c).jrTarget = s.jrTarget := rfl
@[simp] theorem State.gpr_setCp0 (c : Cp0) : (s.setCp0 c).gpr = s.gpr := rfl
@[simp] theorem State.hi_setCp0 (c : Cp0) : (s.setCp0 c).hi = s.hi := rfl
@[simp] theorem State.lo_setCp0 (c : Cp0) : (s.setCp0 c).lo = s.lo := rfl
@[simp] theorem State.hiLoFresh_setCp0 (c : Cp0) : (s.setCp0 c).hiLoFresh = s.hiLoFresh := rfl
@[simp] theorem State.cp0_setCp0 (c : Cp0) : (s.setCp0 c).cp0 = c := rfl
@[simp] theorem State.llBit_setCp0 (c : Cp0) : (s.setCp0 c).llBit = s.llBit := rfl
@[simp] theorem State.linkAddr_setCp0 (c : Cp0) : (s.setCp0 c).linkAddr = s.linkAddr := rfl
@[simp] theorem State.llDisturbed_setCp0 (c : Cp0) : (s.setCp0 c).llDisturbed = s.llDisturbed := rfl
@[simp] theorem State.tlb_setCp0 (c : Cp0) : (s.setCp0 c).tlb = s.tlb := rfl
@[simp] theorem State.fpr_setCp0 (c : Cp0) : (s.setCp0 c).fpr = s.fpr := rfl
@[simp] theorem State.fcr31_setCp0 (c : Cp0) : (s.setCp0 c).fcr31 = s.fcr31 := rfl
@[simp] theorem State.runState_setCp0 (c : Cp0) : (s.setCp0 c).runState = s.runState := rfl
@[simp] theorem State.pins_setCp0 (c : Cp0) : (s.setCp0 c).pins = s.pins := rfl
@[simp] theorem State.inputs_setCp0 (c : Cp0) : (s.setCp0 c).inputs = s.inputs := rfl
@[simp] theorem State.mem_setCp0 (c : Cp0) : (s.setCp0 c).mem = s.mem := rfl
@[simp] theorem State.freeCount_setCp0 (c : Cp0) : (s.setCp0 c).freeCount = s.freeCount := rfl
@[simp] theorem State.raised_setCp0 (c : Cp0) : (s.setCp0 c).raised = s.raised := rfl
@[simp] theorem State.env_setCp0 (c : Cp0) : (s.setCp0 c).env = s.env := rfl

/-! ## `setStatus` -/

@[simp] theorem State.pc_setStatus (st : Status) : (s.setStatus st).pc = s.pc := rfl
@[simp] theorem State.npc_setStatus (st : Status) : (s.setStatus st).npc = s.npc := rfl
@[simp] theorem State.inDelay_setStatus (st : Status) : (s.setStatus st).inDelay = s.inDelay := rfl
@[simp] theorem State.jrSlot_setStatus (st : Status) : (s.setStatus st).jrSlot = s.jrSlot := rfl
@[simp] theorem State.jrTarget_setStatus (st : Status) : (s.setStatus st).jrTarget = s.jrTarget := rfl
@[simp] theorem State.gpr_setStatus (st : Status) : (s.setStatus st).gpr = s.gpr := rfl
@[simp] theorem State.hi_setStatus (st : Status) : (s.setStatus st).hi = s.hi := rfl
@[simp] theorem State.lo_setStatus (st : Status) : (s.setStatus st).lo = s.lo := rfl
@[simp] theorem State.hiLoFresh_setStatus (st : Status) : (s.setStatus st).hiLoFresh = s.hiLoFresh := rfl
@[simp] theorem State.cp0_setStatus (st : Status) : (s.setStatus st).cp0 = { s.cp0 with status := st } := rfl
@[simp] theorem State.llBit_setStatus (st : Status) : (s.setStatus st).llBit = s.llBit := rfl
@[simp] theorem State.linkAddr_setStatus (st : Status) : (s.setStatus st).linkAddr = s.linkAddr := rfl
@[simp] theorem State.llDisturbed_setStatus (st : Status) : (s.setStatus st).llDisturbed = s.llDisturbed := rfl
@[simp] theorem State.tlb_setStatus (st : Status) : (s.setStatus st).tlb = s.tlb := rfl
@[simp] theorem State.fpr_setStatus (st : Status) : (s.setStatus st).fpr = s.fpr := rfl
@[simp] theorem State.fcr31_setStatus (st : Status) : (s.setStatus st).fcr31 = s.fcr31 := rfl
@[simp] theorem State.runState_setStatus (st : Status) : (s.setStatus st).runState = s.runState := rfl
@[simp] theorem State.pins_setStatus (st : Status) : (s.setStatus st).pins = s.pins := rfl
@[simp] theorem State.inputs_setStatus (st : Status) : (s.setStatus st).inputs = s.inputs := rfl
@[simp] theorem State.mem_setStatus (st : Status) : (s.setStatus st).mem = s.mem := rfl
@[simp] theorem State.freeCount_setStatus (st : Status) : (s.setStatus st).freeCount = s.freeCount := rfl
@[simp] theorem State.raised_setStatus (st : Status) : (s.setStatus st).raised = s.raised := rfl
@[simp] theorem State.env_setStatus (st : Status) : (s.setStatus st).env = s.env := rfl

/-! ## `setFcr31` -/

@[simp] theorem State.pc_setFcr31 (f : Fcr31) : (s.setFcr31 f).pc = s.pc := rfl
@[simp] theorem State.npc_setFcr31 (f : Fcr31) : (s.setFcr31 f).npc = s.npc := rfl
@[simp] theorem State.inDelay_setFcr31 (f : Fcr31) : (s.setFcr31 f).inDelay = s.inDelay := rfl
@[simp] theorem State.jrSlot_setFcr31 (f : Fcr31) : (s.setFcr31 f).jrSlot = s.jrSlot := rfl
@[simp] theorem State.jrTarget_setFcr31 (f : Fcr31) : (s.setFcr31 f).jrTarget = s.jrTarget := rfl
@[simp] theorem State.gpr_setFcr31 (f : Fcr31) : (s.setFcr31 f).gpr = s.gpr := rfl
@[simp] theorem State.hi_setFcr31 (f : Fcr31) : (s.setFcr31 f).hi = s.hi := rfl
@[simp] theorem State.lo_setFcr31 (f : Fcr31) : (s.setFcr31 f).lo = s.lo := rfl
@[simp] theorem State.hiLoFresh_setFcr31 (f : Fcr31) : (s.setFcr31 f).hiLoFresh = s.hiLoFresh := rfl
@[simp] theorem State.cp0_setFcr31 (f : Fcr31) : (s.setFcr31 f).cp0 = s.cp0 := rfl
@[simp] theorem State.llBit_setFcr31 (f : Fcr31) : (s.setFcr31 f).llBit = s.llBit := rfl
@[simp] theorem State.linkAddr_setFcr31 (f : Fcr31) : (s.setFcr31 f).linkAddr = s.linkAddr := rfl
@[simp] theorem State.llDisturbed_setFcr31 (f : Fcr31) : (s.setFcr31 f).llDisturbed = s.llDisturbed := rfl
@[simp] theorem State.tlb_setFcr31 (f : Fcr31) : (s.setFcr31 f).tlb = s.tlb := rfl
@[simp] theorem State.fpr_setFcr31 (f : Fcr31) : (s.setFcr31 f).fpr = s.fpr := rfl
@[simp] theorem State.fcr31_setFcr31 (f : Fcr31) : (s.setFcr31 f).fcr31 = f := rfl
@[simp] theorem State.runState_setFcr31 (f : Fcr31) : (s.setFcr31 f).runState = s.runState := rfl
@[simp] theorem State.pins_setFcr31 (f : Fcr31) : (s.setFcr31 f).pins = s.pins := rfl
@[simp] theorem State.inputs_setFcr31 (f : Fcr31) : (s.setFcr31 f).inputs = s.inputs := rfl
@[simp] theorem State.mem_setFcr31 (f : Fcr31) : (s.setFcr31 f).mem = s.mem := rfl
@[simp] theorem State.freeCount_setFcr31 (f : Fcr31) : (s.setFcr31 f).freeCount = s.freeCount := rfl
@[simp] theorem State.raised_setFcr31 (f : Fcr31) : (s.setFcr31 f).raised = s.raised := rfl
@[simp] theorem State.env_setFcr31 (f : Fcr31) : (s.setFcr31 f).env = s.env := rfl

/-! ## `setFp` -/

@[simp] theorem State.pc_setFp (i : FprNum) (v : FpReg) : (s.setFp i v).pc = s.pc := rfl
@[simp] theorem State.npc_setFp (i : FprNum) (v : FpReg) : (s.setFp i v).npc = s.npc := rfl
@[simp] theorem State.inDelay_setFp (i : FprNum) (v : FpReg) : (s.setFp i v).inDelay = s.inDelay := rfl
@[simp] theorem State.jrSlot_setFp (i : FprNum) (v : FpReg) : (s.setFp i v).jrSlot = s.jrSlot := rfl
@[simp] theorem State.jrTarget_setFp (i : FprNum) (v : FpReg) : (s.setFp i v).jrTarget = s.jrTarget := rfl
@[simp] theorem State.gpr_setFp (i : FprNum) (v : FpReg) : (s.setFp i v).gpr = s.gpr := rfl
@[simp] theorem State.hi_setFp (i : FprNum) (v : FpReg) : (s.setFp i v).hi = s.hi := rfl
@[simp] theorem State.lo_setFp (i : FprNum) (v : FpReg) : (s.setFp i v).lo = s.lo := rfl
@[simp] theorem State.hiLoFresh_setFp (i : FprNum) (v : FpReg) : (s.setFp i v).hiLoFresh = s.hiLoFresh := rfl
@[simp] theorem State.cp0_setFp (i : FprNum) (v : FpReg) : (s.setFp i v).cp0 = s.cp0 := rfl
@[simp] theorem State.llBit_setFp (i : FprNum) (v : FpReg) : (s.setFp i v).llBit = s.llBit := rfl
@[simp] theorem State.linkAddr_setFp (i : FprNum) (v : FpReg) : (s.setFp i v).linkAddr = s.linkAddr := rfl
@[simp] theorem State.llDisturbed_setFp (i : FprNum) (v : FpReg) : (s.setFp i v).llDisturbed = s.llDisturbed := rfl
@[simp] theorem State.tlb_setFp (i : FprNum) (v : FpReg) : (s.setFp i v).tlb = s.tlb := rfl
@[simp] theorem State.fpr_setFp (i : FprNum) (v : FpReg) : (s.setFp i v).fpr = s.fpr.set i.toNat v i.isLt := rfl
@[simp] theorem State.fcr31_setFp (i : FprNum) (v : FpReg) : (s.setFp i v).fcr31 = s.fcr31 := rfl
@[simp] theorem State.runState_setFp (i : FprNum) (v : FpReg) : (s.setFp i v).runState = s.runState := rfl
@[simp] theorem State.pins_setFp (i : FprNum) (v : FpReg) : (s.setFp i v).pins = s.pins := rfl
@[simp] theorem State.inputs_setFp (i : FprNum) (v : FpReg) : (s.setFp i v).inputs = s.inputs := rfl
@[simp] theorem State.mem_setFp (i : FprNum) (v : FpReg) : (s.setFp i v).mem = s.mem := rfl
@[simp] theorem State.freeCount_setFp (i : FprNum) (v : FpReg) : (s.setFp i v).freeCount = s.freeCount := rfl
@[simp] theorem State.raised_setFp (i : FprNum) (v : FpReg) : (s.setFp i v).raised = s.raised := rfl
@[simp] theorem State.env_setFp (i : FprNum) (v : FpReg) : (s.setFp i v).env = s.env := rfl

/-! ## `setTlb` -/

@[simp] theorem State.pc_setTlb (i : Nat) (e : TlbEntry) : (s.setTlb i e).pc = s.pc := rfl
@[simp] theorem State.npc_setTlb (i : Nat) (e : TlbEntry) : (s.setTlb i e).npc = s.npc := rfl
@[simp] theorem State.inDelay_setTlb (i : Nat) (e : TlbEntry) : (s.setTlb i e).inDelay = s.inDelay := rfl
@[simp] theorem State.jrSlot_setTlb (i : Nat) (e : TlbEntry) : (s.setTlb i e).jrSlot = s.jrSlot := rfl
@[simp] theorem State.jrTarget_setTlb (i : Nat) (e : TlbEntry) : (s.setTlb i e).jrTarget = s.jrTarget := rfl
@[simp] theorem State.gpr_setTlb (i : Nat) (e : TlbEntry) : (s.setTlb i e).gpr = s.gpr := rfl
@[simp] theorem State.hi_setTlb (i : Nat) (e : TlbEntry) : (s.setTlb i e).hi = s.hi := rfl
@[simp] theorem State.lo_setTlb (i : Nat) (e : TlbEntry) : (s.setTlb i e).lo = s.lo := rfl
@[simp] theorem State.hiLoFresh_setTlb (i : Nat) (e : TlbEntry) : (s.setTlb i e).hiLoFresh = s.hiLoFresh := rfl
@[simp] theorem State.cp0_setTlb (i : Nat) (e : TlbEntry) : (s.setTlb i e).cp0 = s.cp0 := rfl
@[simp] theorem State.llBit_setTlb (i : Nat) (e : TlbEntry) : (s.setTlb i e).llBit = s.llBit := rfl
@[simp] theorem State.linkAddr_setTlb (i : Nat) (e : TlbEntry) : (s.setTlb i e).linkAddr = s.linkAddr := rfl
@[simp] theorem State.llDisturbed_setTlb (i : Nat) (e : TlbEntry) : (s.setTlb i e).llDisturbed = s.llDisturbed := rfl
@[simp] theorem State.tlb_setTlb (i : Nat) (e : TlbEntry) : (s.setTlb i e).tlb = s.tlb.setIfInBounds i e := rfl
@[simp] theorem State.fpr_setTlb (i : Nat) (e : TlbEntry) : (s.setTlb i e).fpr = s.fpr := rfl
@[simp] theorem State.fcr31_setTlb (i : Nat) (e : TlbEntry) : (s.setTlb i e).fcr31 = s.fcr31 := rfl
@[simp] theorem State.runState_setTlb (i : Nat) (e : TlbEntry) : (s.setTlb i e).runState = s.runState := rfl
@[simp] theorem State.pins_setTlb (i : Nat) (e : TlbEntry) : (s.setTlb i e).pins = s.pins := rfl
@[simp] theorem State.inputs_setTlb (i : Nat) (e : TlbEntry) : (s.setTlb i e).inputs = s.inputs := rfl
@[simp] theorem State.mem_setTlb (i : Nat) (e : TlbEntry) : (s.setTlb i e).mem = s.mem := rfl
@[simp] theorem State.freeCount_setTlb (i : Nat) (e : TlbEntry) : (s.setTlb i e).freeCount = s.freeCount := rfl
@[simp] theorem State.raised_setTlb (i : Nat) (e : TlbEntry) : (s.setTlb i e).raised = s.raised := rfl
@[simp] theorem State.env_setTlb (i : Nat) (e : TlbEntry) : (s.setTlb i e).env = s.env := rfl

/-! ## `memWrite` -/

@[simp] theorem State.pc_memWrite (pa : PAddr) (n : Nat) (v : Dword) : (s.memWrite pa n v).pc = s.pc := rfl
@[simp] theorem State.npc_memWrite (pa : PAddr) (n : Nat) (v : Dword) : (s.memWrite pa n v).npc = s.npc := rfl
@[simp] theorem State.inDelay_memWrite (pa : PAddr) (n : Nat) (v : Dword) :
    (s.memWrite pa n v).inDelay = s.inDelay := rfl
@[simp] theorem State.jrSlot_memWrite (pa : PAddr) (n : Nat) (v : Dword) :
    (s.memWrite pa n v).jrSlot = s.jrSlot := rfl
@[simp] theorem State.jrTarget_memWrite (pa : PAddr) (n : Nat) (v : Dword) :
    (s.memWrite pa n v).jrTarget = s.jrTarget := rfl
@[simp] theorem State.gpr_memWrite (pa : PAddr) (n : Nat) (v : Dword) : (s.memWrite pa n v).gpr = s.gpr := rfl
@[simp] theorem State.hi_memWrite (pa : PAddr) (n : Nat) (v : Dword) : (s.memWrite pa n v).hi = s.hi := rfl
@[simp] theorem State.lo_memWrite (pa : PAddr) (n : Nat) (v : Dword) : (s.memWrite pa n v).lo = s.lo := rfl
@[simp] theorem State.hiLoFresh_memWrite (pa : PAddr) (n : Nat) (v : Dword) :
    (s.memWrite pa n v).hiLoFresh = s.hiLoFresh := rfl
@[simp] theorem State.cp0_memWrite (pa : PAddr) (n : Nat) (v : Dword) : (s.memWrite pa n v).cp0 = s.cp0 := rfl
@[simp] theorem State.llBit_memWrite (pa : PAddr) (n : Nat) (v : Dword) : (s.memWrite pa n v).llBit = s.llBit := rfl
@[simp] theorem State.linkAddr_memWrite (pa : PAddr) (n : Nat) (v : Dword) :
    (s.memWrite pa n v).linkAddr = s.linkAddr := rfl
@[simp] theorem State.llDisturbed_memWrite (pa : PAddr) (n : Nat) (v : Dword) :
    (s.memWrite pa n v).llDisturbed = s.llDisturbed := rfl
@[simp] theorem State.tlb_memWrite (pa : PAddr) (n : Nat) (v : Dword) : (s.memWrite pa n v).tlb = s.tlb := rfl
@[simp] theorem State.fpr_memWrite (pa : PAddr) (n : Nat) (v : Dword) : (s.memWrite pa n v).fpr = s.fpr := rfl
@[simp] theorem State.fcr31_memWrite (pa : PAddr) (n : Nat) (v : Dword) : (s.memWrite pa n v).fcr31 = s.fcr31 := rfl
@[simp] theorem State.runState_memWrite (pa : PAddr) (n : Nat) (v : Dword) :
    (s.memWrite pa n v).runState = s.runState := rfl
@[simp] theorem State.pins_memWrite (pa : PAddr) (n : Nat) (v : Dword) : (s.memWrite pa n v).pins = s.pins := rfl
@[simp] theorem State.inputs_memWrite (pa : PAddr) (n : Nat) (v : Dword) :
    (s.memWrite pa n v).inputs = s.inputs := rfl
@[simp] theorem State.mem_memWrite (pa : PAddr) (n : Nat) (v : Dword) :
    (s.memWrite pa n v).mem = Memory.store s.pins.bigEndian s.mem pa n v := rfl
@[simp] theorem State.freeCount_memWrite (pa : PAddr) (n : Nat) (v : Dword) :
    (s.memWrite pa n v).freeCount = s.freeCount := rfl
@[simp] theorem State.raised_memWrite (pa : PAddr) (n : Nat) (v : Dword) :
    (s.memWrite pa n v).raised = s.raised := rfl
@[simp] theorem State.env_memWrite (pa : PAddr) (n : Nat) (v : Dword) : (s.memWrite pa n v).env = s.env := rfl

/-! ## `noteAccess` -/

@[simp] theorem State.pc_noteAccess : (s.noteAccess).pc = s.pc := rfl
@[simp] theorem State.npc_noteAccess : (s.noteAccess).npc = s.npc := rfl
@[simp] theorem State.inDelay_noteAccess : (s.noteAccess).inDelay = s.inDelay := rfl
@[simp] theorem State.jrSlot_noteAccess : (s.noteAccess).jrSlot = s.jrSlot := rfl
@[simp] theorem State.jrTarget_noteAccess : (s.noteAccess).jrTarget = s.jrTarget := rfl
@[simp] theorem State.gpr_noteAccess : (s.noteAccess).gpr = s.gpr := rfl
@[simp] theorem State.hi_noteAccess : (s.noteAccess).hi = s.hi := rfl
@[simp] theorem State.lo_noteAccess : (s.noteAccess).lo = s.lo := rfl
@[simp] theorem State.hiLoFresh_noteAccess : (s.noteAccess).hiLoFresh = s.hiLoFresh := rfl
@[simp] theorem State.cp0_noteAccess : (s.noteAccess).cp0 = s.cp0 := rfl
@[simp] theorem State.llBit_noteAccess : (s.noteAccess).llBit = s.llBit := rfl
@[simp] theorem State.linkAddr_noteAccess : (s.noteAccess).linkAddr = s.linkAddr := rfl
@[simp] theorem State.llDisturbed_noteAccess : (s.noteAccess).llDisturbed = true := rfl
@[simp] theorem State.tlb_noteAccess : (s.noteAccess).tlb = s.tlb := rfl
@[simp] theorem State.fpr_noteAccess : (s.noteAccess).fpr = s.fpr := rfl
@[simp] theorem State.fcr31_noteAccess : (s.noteAccess).fcr31 = s.fcr31 := rfl
@[simp] theorem State.runState_noteAccess : (s.noteAccess).runState = s.runState := rfl
@[simp] theorem State.pins_noteAccess : (s.noteAccess).pins = s.pins := rfl
@[simp] theorem State.inputs_noteAccess : (s.noteAccess).inputs = s.inputs := rfl
@[simp] theorem State.mem_noteAccess : (s.noteAccess).mem = s.mem := rfl
@[simp] theorem State.freeCount_noteAccess : (s.noteAccess).freeCount = s.freeCount := rfl
@[simp] theorem State.raised_noteAccess : (s.noteAccess).raised = s.raised := rfl
@[simp] theorem State.env_noteAccess : (s.noteAccess).env = s.env := rfl

/-! ## `setLink` -/

@[simp] theorem State.pc_setLink (pa : PAddr) : (s.setLink pa).pc = s.pc := rfl
@[simp] theorem State.npc_setLink (pa : PAddr) : (s.setLink pa).npc = s.npc := rfl
@[simp] theorem State.inDelay_setLink (pa : PAddr) : (s.setLink pa).inDelay = s.inDelay := rfl
@[simp] theorem State.jrSlot_setLink (pa : PAddr) : (s.setLink pa).jrSlot = s.jrSlot := rfl
@[simp] theorem State.jrTarget_setLink (pa : PAddr) : (s.setLink pa).jrTarget = s.jrTarget := rfl
@[simp] theorem State.gpr_setLink (pa : PAddr) : (s.setLink pa).gpr = s.gpr := rfl
@[simp] theorem State.hi_setLink (pa : PAddr) : (s.setLink pa).hi = s.hi := rfl
@[simp] theorem State.lo_setLink (pa : PAddr) : (s.setLink pa).lo = s.lo := rfl
@[simp] theorem State.hiLoFresh_setLink (pa : PAddr) : (s.setLink pa).hiLoFresh = s.hiLoFresh := rfl
@[simp] theorem State.cp0_setLink (pa : PAddr) :
    (s.setLink pa).cp0 = { s.cp0 with llAddr := pa.extractLsb' 4 32 } := rfl
@[simp] theorem State.llBit_setLink (pa : PAddr) : (s.setLink pa).llBit = true := rfl
@[simp] theorem State.linkAddr_setLink (pa : PAddr) : (s.setLink pa).linkAddr = pa := rfl
@[simp] theorem State.llDisturbed_setLink (pa : PAddr) : (s.setLink pa).llDisturbed = false := rfl
@[simp] theorem State.tlb_setLink (pa : PAddr) : (s.setLink pa).tlb = s.tlb := rfl
@[simp] theorem State.fpr_setLink (pa : PAddr) : (s.setLink pa).fpr = s.fpr := rfl
@[simp] theorem State.fcr31_setLink (pa : PAddr) : (s.setLink pa).fcr31 = s.fcr31 := rfl
@[simp] theorem State.runState_setLink (pa : PAddr) : (s.setLink pa).runState = s.runState := rfl
@[simp] theorem State.pins_setLink (pa : PAddr) : (s.setLink pa).pins = s.pins := rfl
@[simp] theorem State.inputs_setLink (pa : PAddr) : (s.setLink pa).inputs = s.inputs := rfl
@[simp] theorem State.mem_setLink (pa : PAddr) : (s.setLink pa).mem = s.mem := rfl
@[simp] theorem State.freeCount_setLink (pa : PAddr) : (s.setLink pa).freeCount = s.freeCount := rfl
@[simp] theorem State.raised_setLink (pa : PAddr) : (s.setLink pa).raised = s.raised := rfl
@[simp] theorem State.env_setLink (pa : PAddr) : (s.setLink pa).env = s.env := rfl

/-! ## `setRunState` -/

@[simp] theorem State.pc_setRunState (r : RunState) : (s.setRunState r).pc = s.pc := rfl
@[simp] theorem State.npc_setRunState (r : RunState) : (s.setRunState r).npc = s.npc := rfl
@[simp] theorem State.inDelay_setRunState (r : RunState) : (s.setRunState r).inDelay = s.inDelay := rfl
@[simp] theorem State.jrSlot_setRunState (r : RunState) : (s.setRunState r).jrSlot = s.jrSlot := rfl
@[simp] theorem State.jrTarget_setRunState (r : RunState) : (s.setRunState r).jrTarget = s.jrTarget := rfl
@[simp] theorem State.gpr_setRunState (r : RunState) : (s.setRunState r).gpr = s.gpr := rfl
@[simp] theorem State.hi_setRunState (r : RunState) : (s.setRunState r).hi = s.hi := rfl
@[simp] theorem State.lo_setRunState (r : RunState) : (s.setRunState r).lo = s.lo := rfl
@[simp] theorem State.hiLoFresh_setRunState (r : RunState) : (s.setRunState r).hiLoFresh = s.hiLoFresh := rfl
@[simp] theorem State.cp0_setRunState (r : RunState) : (s.setRunState r).cp0 = s.cp0 := rfl
@[simp] theorem State.llBit_setRunState (r : RunState) : (s.setRunState r).llBit = s.llBit := rfl
@[simp] theorem State.linkAddr_setRunState (r : RunState) : (s.setRunState r).linkAddr = s.linkAddr := rfl
@[simp] theorem State.llDisturbed_setRunState (r : RunState) : (s.setRunState r).llDisturbed = s.llDisturbed := rfl
@[simp] theorem State.tlb_setRunState (r : RunState) : (s.setRunState r).tlb = s.tlb := rfl
@[simp] theorem State.fpr_setRunState (r : RunState) : (s.setRunState r).fpr = s.fpr := rfl
@[simp] theorem State.fcr31_setRunState (r : RunState) : (s.setRunState r).fcr31 = s.fcr31 := rfl
@[simp] theorem State.runState_setRunState (r : RunState) : (s.setRunState r).runState = r := rfl
@[simp] theorem State.pins_setRunState (r : RunState) : (s.setRunState r).pins = s.pins := rfl
@[simp] theorem State.inputs_setRunState (r : RunState) : (s.setRunState r).inputs = s.inputs := rfl
@[simp] theorem State.mem_setRunState (r : RunState) : (s.setRunState r).mem = s.mem := rfl
@[simp] theorem State.freeCount_setRunState (r : RunState) : (s.setRunState r).freeCount = s.freeCount := rfl
@[simp] theorem State.raised_setRunState (r : RunState) : (s.setRunState r).raised = s.raised := rfl
@[simp] theorem State.env_setRunState (r : RunState) : (s.setRunState r).env = s.env := rfl

/-! ## `drew` -/

@[simp] theorem State.pc_drew (n : Nat) : (s.drew n).pc = s.pc := rfl
@[simp] theorem State.npc_drew (n : Nat) : (s.drew n).npc = s.npc := rfl
@[simp] theorem State.inDelay_drew (n : Nat) : (s.drew n).inDelay = s.inDelay := rfl
@[simp] theorem State.jrSlot_drew (n : Nat) : (s.drew n).jrSlot = s.jrSlot := rfl
@[simp] theorem State.jrTarget_drew (n : Nat) : (s.drew n).jrTarget = s.jrTarget := rfl
@[simp] theorem State.gpr_drew (n : Nat) : (s.drew n).gpr = s.gpr := rfl
@[simp] theorem State.hi_drew (n : Nat) : (s.drew n).hi = s.hi := rfl
@[simp] theorem State.lo_drew (n : Nat) : (s.drew n).lo = s.lo := rfl
@[simp] theorem State.hiLoFresh_drew (n : Nat) : (s.drew n).hiLoFresh = s.hiLoFresh := rfl
@[simp] theorem State.cp0_drew (n : Nat) : (s.drew n).cp0 = s.cp0 := rfl
@[simp] theorem State.llBit_drew (n : Nat) : (s.drew n).llBit = s.llBit := rfl
@[simp] theorem State.linkAddr_drew (n : Nat) : (s.drew n).linkAddr = s.linkAddr := rfl
@[simp] theorem State.llDisturbed_drew (n : Nat) : (s.drew n).llDisturbed = s.llDisturbed := rfl
@[simp] theorem State.tlb_drew (n : Nat) : (s.drew n).tlb = s.tlb := rfl
@[simp] theorem State.fpr_drew (n : Nat) : (s.drew n).fpr = s.fpr := rfl
@[simp] theorem State.fcr31_drew (n : Nat) : (s.drew n).fcr31 = s.fcr31 := rfl
@[simp] theorem State.runState_drew (n : Nat) : (s.drew n).runState = s.runState := rfl
@[simp] theorem State.pins_drew (n : Nat) : (s.drew n).pins = s.pins := rfl
@[simp] theorem State.inputs_drew (n : Nat) : (s.drew n).inputs = s.inputs := rfl
@[simp] theorem State.mem_drew (n : Nat) : (s.drew n).mem = s.mem := rfl
@[simp] theorem State.freeCount_drew (n : Nat) : (s.drew n).freeCount = s.freeCount + n := rfl
@[simp] theorem State.raised_drew (n : Nat) : (s.drew n).raised = s.raised := rfl
@[simp] theorem State.env_drew (n : Nat) : (s.drew n).env = s.env := rfl

/-! ## `advance` -/

@[simp] theorem State.pc_advance : (s.advance).pc = s.npc := rfl
@[simp] theorem State.npc_advance : (s.advance).npc = s.npc + 4 := rfl
@[simp] theorem State.inDelay_advance : (s.advance).inDelay = false := rfl
@[simp] theorem State.jrSlot_advance : (s.advance).jrSlot = false := rfl
@[simp] theorem State.jrTarget_advance : (s.advance).jrTarget = s.jrSlot := rfl
@[simp] theorem State.gpr_advance : (s.advance).gpr = s.gpr := rfl
@[simp] theorem State.hi_advance : (s.advance).hi = s.hi := rfl
@[simp] theorem State.lo_advance : (s.advance).lo = s.lo := rfl
@[simp] theorem State.hiLoFresh_advance : (s.advance).hiLoFresh = s.hiLoFresh := rfl
@[simp] theorem State.cp0_advance : (s.advance).cp0 = s.cp0 := rfl
@[simp] theorem State.llBit_advance : (s.advance).llBit = s.llBit := rfl
@[simp] theorem State.linkAddr_advance : (s.advance).linkAddr = s.linkAddr := rfl
@[simp] theorem State.llDisturbed_advance : (s.advance).llDisturbed = s.llDisturbed := rfl
@[simp] theorem State.tlb_advance : (s.advance).tlb = s.tlb := rfl
@[simp] theorem State.fpr_advance : (s.advance).fpr = s.fpr := rfl
@[simp] theorem State.fcr31_advance : (s.advance).fcr31 = s.fcr31 := rfl
@[simp] theorem State.runState_advance : (s.advance).runState = s.runState := rfl
@[simp] theorem State.pins_advance : (s.advance).pins = s.pins := rfl
@[simp] theorem State.inputs_advance : (s.advance).inputs = s.inputs := rfl
@[simp] theorem State.mem_advance : (s.advance).mem = s.mem := rfl
@[simp] theorem State.freeCount_advance : (s.advance).freeCount = s.freeCount := rfl
@[simp] theorem State.raised_advance : (s.advance).raised = s.raised := rfl
@[simp] theorem State.env_advance : (s.advance).env = s.env := rfl

/-! ## `jumpTo` -/

@[simp] theorem State.pc_jumpTo (a : Dword) (b : Bool) : (s.jumpTo a b).pc = s.npc := rfl
@[simp] theorem State.npc_jumpTo (a : Dword) (b : Bool) : (s.jumpTo a b).npc = a := rfl
@[simp] theorem State.inDelay_jumpTo (a : Dword) (b : Bool) : (s.jumpTo a b).inDelay = true := rfl
@[simp] theorem State.jrSlot_jumpTo (a : Dword) (b : Bool) : (s.jumpTo a b).jrSlot = b := rfl
@[simp] theorem State.jrTarget_jumpTo (a : Dword) (b : Bool) : (s.jumpTo a b).jrTarget = s.jrSlot := rfl
@[simp] theorem State.gpr_jumpTo (a : Dword) (b : Bool) : (s.jumpTo a b).gpr = s.gpr := rfl
@[simp] theorem State.hi_jumpTo (a : Dword) (b : Bool) : (s.jumpTo a b).hi = s.hi := rfl
@[simp] theorem State.lo_jumpTo (a : Dword) (b : Bool) : (s.jumpTo a b).lo = s.lo := rfl
@[simp] theorem State.hiLoFresh_jumpTo (a : Dword) (b : Bool) : (s.jumpTo a b).hiLoFresh = s.hiLoFresh := rfl
@[simp] theorem State.cp0_jumpTo (a : Dword) (b : Bool) : (s.jumpTo a b).cp0 = s.cp0 := rfl
@[simp] theorem State.llBit_jumpTo (a : Dword) (b : Bool) : (s.jumpTo a b).llBit = s.llBit := rfl
@[simp] theorem State.linkAddr_jumpTo (a : Dword) (b : Bool) : (s.jumpTo a b).linkAddr = s.linkAddr := rfl
@[simp] theorem State.llDisturbed_jumpTo (a : Dword) (b : Bool) : (s.jumpTo a b).llDisturbed = s.llDisturbed := rfl
@[simp] theorem State.tlb_jumpTo (a : Dword) (b : Bool) : (s.jumpTo a b).tlb = s.tlb := rfl
@[simp] theorem State.fpr_jumpTo (a : Dword) (b : Bool) : (s.jumpTo a b).fpr = s.fpr := rfl
@[simp] theorem State.fcr31_jumpTo (a : Dword) (b : Bool) : (s.jumpTo a b).fcr31 = s.fcr31 := rfl
@[simp] theorem State.runState_jumpTo (a : Dword) (b : Bool) : (s.jumpTo a b).runState = s.runState := rfl
@[simp] theorem State.pins_jumpTo (a : Dword) (b : Bool) : (s.jumpTo a b).pins = s.pins := rfl
@[simp] theorem State.inputs_jumpTo (a : Dword) (b : Bool) : (s.jumpTo a b).inputs = s.inputs := rfl
@[simp] theorem State.mem_jumpTo (a : Dword) (b : Bool) : (s.jumpTo a b).mem = s.mem := rfl
@[simp] theorem State.freeCount_jumpTo (a : Dword) (b : Bool) : (s.jumpTo a b).freeCount = s.freeCount := rfl
@[simp] theorem State.raised_jumpTo (a : Dword) (b : Bool) : (s.jumpTo a b).raised = s.raised := rfl
@[simp] theorem State.env_jumpTo (a : Dword) (b : Bool) : (s.jumpTo a b).env = s.env := rfl

/-! ## `passBranch` -/

@[simp] theorem State.pc_passBranch : (s.passBranch).pc = s.npc := rfl
@[simp] theorem State.npc_passBranch : (s.passBranch).npc = s.npc + 4 := rfl
@[simp] theorem State.inDelay_passBranch : (s.passBranch).inDelay = true := rfl
@[simp] theorem State.jrSlot_passBranch : (s.passBranch).jrSlot = false := rfl
@[simp] theorem State.jrTarget_passBranch : (s.passBranch).jrTarget = s.jrSlot := rfl
@[simp] theorem State.gpr_passBranch : (s.passBranch).gpr = s.gpr := rfl
@[simp] theorem State.hi_passBranch : (s.passBranch).hi = s.hi := rfl
@[simp] theorem State.lo_passBranch : (s.passBranch).lo = s.lo := rfl
@[simp] theorem State.hiLoFresh_passBranch : (s.passBranch).hiLoFresh = s.hiLoFresh := rfl
@[simp] theorem State.cp0_passBranch : (s.passBranch).cp0 = s.cp0 := rfl
@[simp] theorem State.llBit_passBranch : (s.passBranch).llBit = s.llBit := rfl
@[simp] theorem State.linkAddr_passBranch : (s.passBranch).linkAddr = s.linkAddr := rfl
@[simp] theorem State.llDisturbed_passBranch : (s.passBranch).llDisturbed = s.llDisturbed := rfl
@[simp] theorem State.tlb_passBranch : (s.passBranch).tlb = s.tlb := rfl
@[simp] theorem State.fpr_passBranch : (s.passBranch).fpr = s.fpr := rfl
@[simp] theorem State.fcr31_passBranch : (s.passBranch).fcr31 = s.fcr31 := rfl
@[simp] theorem State.runState_passBranch : (s.passBranch).runState = s.runState := rfl
@[simp] theorem State.pins_passBranch : (s.passBranch).pins = s.pins := rfl
@[simp] theorem State.inputs_passBranch : (s.passBranch).inputs = s.inputs := rfl
@[simp] theorem State.mem_passBranch : (s.passBranch).mem = s.mem := rfl
@[simp] theorem State.freeCount_passBranch : (s.passBranch).freeCount = s.freeCount := rfl
@[simp] theorem State.raised_passBranch : (s.passBranch).raised = s.raised := rfl
@[simp] theorem State.env_passBranch : (s.passBranch).env = s.env := rfl

/-! ## `nullify` -/

@[simp] theorem State.pc_nullify : (s.nullify).pc = s.npc + 4 := rfl
@[simp] theorem State.npc_nullify : (s.nullify).npc = s.npc + 8 := rfl
@[simp] theorem State.inDelay_nullify : (s.nullify).inDelay = false := rfl
@[simp] theorem State.jrSlot_nullify : (s.nullify).jrSlot = false := rfl
@[simp] theorem State.jrTarget_nullify : (s.nullify).jrTarget = false := rfl
@[simp] theorem State.gpr_nullify : (s.nullify).gpr = s.gpr := rfl
@[simp] theorem State.hi_nullify : (s.nullify).hi = s.hi := rfl
@[simp] theorem State.lo_nullify : (s.nullify).lo = s.lo := rfl
@[simp] theorem State.hiLoFresh_nullify : (s.nullify).hiLoFresh = s.hiLoFresh := rfl
@[simp] theorem State.cp0_nullify : (s.nullify).cp0 = s.cp0 := rfl
@[simp] theorem State.llBit_nullify : (s.nullify).llBit = s.llBit := rfl
@[simp] theorem State.linkAddr_nullify : (s.nullify).linkAddr = s.linkAddr := rfl
@[simp] theorem State.llDisturbed_nullify : (s.nullify).llDisturbed = s.llDisturbed := rfl
@[simp] theorem State.tlb_nullify : (s.nullify).tlb = s.tlb := rfl
@[simp] theorem State.fpr_nullify : (s.nullify).fpr = s.fpr := rfl
@[simp] theorem State.fcr31_nullify : (s.nullify).fcr31 = s.fcr31 := rfl
@[simp] theorem State.runState_nullify : (s.nullify).runState = s.runState := rfl
@[simp] theorem State.pins_nullify : (s.nullify).pins = s.pins := rfl
@[simp] theorem State.inputs_nullify : (s.nullify).inputs = s.inputs := rfl
@[simp] theorem State.mem_nullify : (s.nullify).mem = s.mem := rfl
@[simp] theorem State.freeCount_nullify : (s.nullify).freeCount = s.freeCount := rfl
@[simp] theorem State.raised_nullify : (s.nullify).raised = s.raised := rfl
@[simp] theorem State.env_nullify : (s.nullify).env = s.env := rfl

/-! ## `setPc` -/

@[simp] theorem State.pc_setPc (a : Dword) : (s.setPc a).pc = a := rfl
@[simp] theorem State.npc_setPc (a : Dword) : (s.setPc a).npc = a + 4 := rfl
@[simp] theorem State.inDelay_setPc (a : Dword) : (s.setPc a).inDelay = false := rfl
@[simp] theorem State.jrSlot_setPc (a : Dword) : (s.setPc a).jrSlot = false := rfl
@[simp] theorem State.jrTarget_setPc (a : Dword) : (s.setPc a).jrTarget = false := rfl
@[simp] theorem State.gpr_setPc (a : Dword) : (s.setPc a).gpr = s.gpr := rfl
@[simp] theorem State.hi_setPc (a : Dword) : (s.setPc a).hi = s.hi := rfl
@[simp] theorem State.lo_setPc (a : Dword) : (s.setPc a).lo = s.lo := rfl
@[simp] theorem State.hiLoFresh_setPc (a : Dword) : (s.setPc a).hiLoFresh = s.hiLoFresh := rfl
@[simp] theorem State.cp0_setPc (a : Dword) : (s.setPc a).cp0 = s.cp0 := rfl
@[simp] theorem State.llBit_setPc (a : Dword) : (s.setPc a).llBit = s.llBit := rfl
@[simp] theorem State.linkAddr_setPc (a : Dword) : (s.setPc a).linkAddr = s.linkAddr := rfl
@[simp] theorem State.llDisturbed_setPc (a : Dword) : (s.setPc a).llDisturbed = s.llDisturbed := rfl
@[simp] theorem State.tlb_setPc (a : Dword) : (s.setPc a).tlb = s.tlb := rfl
@[simp] theorem State.fpr_setPc (a : Dword) : (s.setPc a).fpr = s.fpr := rfl
@[simp] theorem State.fcr31_setPc (a : Dword) : (s.setPc a).fcr31 = s.fcr31 := rfl
@[simp] theorem State.runState_setPc (a : Dword) : (s.setPc a).runState = s.runState := rfl
@[simp] theorem State.pins_setPc (a : Dword) : (s.setPc a).pins = s.pins := rfl
@[simp] theorem State.inputs_setPc (a : Dword) : (s.setPc a).inputs = s.inputs := rfl
@[simp] theorem State.mem_setPc (a : Dword) : (s.setPc a).mem = s.mem := rfl
@[simp] theorem State.freeCount_setPc (a : Dword) : (s.setPc a).freeCount = s.freeCount := rfl
@[simp] theorem State.raised_setPc (a : Dword) : (s.setPc a).raised = s.raised := rfl
@[simp] theorem State.env_setPc (a : Dword) : (s.setPc a).env = s.env := rfl

/-! ## Accessors -/

@[simp] theorem State.fp_setReg (r : RegNum) (v : Dword) (j : FprNum) : (s.setReg r v).fp j = s.fp j := by
  simp [State.fp]
@[simp] theorem State.byteAt_setReg (r : RegNum) (v : Dword) (x : Nat) : (s.setReg r v).byteAt x = s.byteAt x := by
  simp [State.byteAt]
@[simp] theorem State.status_setReg (r : RegNum) (v : Dword) : (s.setReg r v).status = s.status := by
  simp [State.status]
@[simp] theorem State.free_setReg (r : RegNum) (v : Dword) (k : Nat) : (s.setReg r v).free k = s.free k := by
  simp [State.free]
@[simp] theorem State.reg_setHiLo (h l : Dword) (q : RegNum) : (s.setHiLo h l).reg q = s.reg q := rfl
@[simp] theorem State.fp_setHiLo (h l : Dword) (j : FprNum) : (s.setHiLo h l).fp j = s.fp j := by simp [State.fp]
@[simp] theorem State.byteAt_setHiLo (h l : Dword) (x : Nat) : (s.setHiLo h l).byteAt x = s.byteAt x := by
  simp [State.byteAt]
@[simp] theorem State.status_setHiLo (h l : Dword) : (s.setHiLo h l).status = s.status := by simp [State.status]
@[simp] theorem State.free_setHiLo (h l : Dword) (k : Nat) : (s.setHiLo h l).free k = s.free k := by simp [State.free]
@[simp] theorem State.reg_setHiLoFresh (b : Bool) (q : RegNum) : (s.setHiLoFresh b).reg q = s.reg q := rfl
@[simp] theorem State.fp_setHiLoFresh (b : Bool) (j : FprNum) : (s.setHiLoFresh b).fp j = s.fp j := by simp [State.fp]
@[simp] theorem State.byteAt_setHiLoFresh (b : Bool) (x : Nat) : (s.setHiLoFresh b).byteAt x = s.byteAt x := by
  simp [State.byteAt]
@[simp] theorem State.status_setHiLoFresh (b : Bool) : (s.setHiLoFresh b).status = s.status := by simp [State.status]
@[simp] theorem State.free_setHiLoFresh (b : Bool) (k : Nat) : (s.setHiLoFresh b).free k = s.free k := by
  simp [State.free]
@[simp] theorem State.reg_setCp0 (c : Cp0) (q : RegNum) : (s.setCp0 c).reg q = s.reg q := rfl
@[simp] theorem State.fp_setCp0 (c : Cp0) (j : FprNum) : (s.setCp0 c).fp j = s.fp j := by simp [State.fp]
@[simp] theorem State.byteAt_setCp0 (c : Cp0) (x : Nat) : (s.setCp0 c).byteAt x = s.byteAt x := by simp [State.byteAt]
@[simp] theorem State.free_setCp0 (c : Cp0) (k : Nat) : (s.setCp0 c).free k = s.free k := by simp [State.free]
@[simp] theorem State.reg_setStatus (st : Status) (q : RegNum) : (s.setStatus st).reg q = s.reg q := rfl
@[simp] theorem State.fp_setStatus (st : Status) (j : FprNum) : (s.setStatus st).fp j = s.fp j := by simp [State.fp]
@[simp] theorem State.byteAt_setStatus (st : Status) (x : Nat) : (s.setStatus st).byteAt x = s.byteAt x := by
  simp [State.byteAt]
@[simp] theorem State.free_setStatus (st : Status) (k : Nat) : (s.setStatus st).free k = s.free k := by
  simp [State.free]
@[simp] theorem State.reg_setFcr31 (f : Fcr31) (q : RegNum) : (s.setFcr31 f).reg q = s.reg q := rfl
@[simp] theorem State.fp_setFcr31 (f : Fcr31) (j : FprNum) : (s.setFcr31 f).fp j = s.fp j := by simp [State.fp]
@[simp] theorem State.byteAt_setFcr31 (f : Fcr31) (x : Nat) : (s.setFcr31 f).byteAt x = s.byteAt x := by
  simp [State.byteAt]
@[simp] theorem State.status_setFcr31 (f : Fcr31) : (s.setFcr31 f).status = s.status := by simp [State.status]
@[simp] theorem State.free_setFcr31 (f : Fcr31) (k : Nat) : (s.setFcr31 f).free k = s.free k := by simp [State.free]
@[simp] theorem State.reg_setFp (i : FprNum) (v : FpReg) (q : RegNum) : (s.setFp i v).reg q = s.reg q := rfl
@[simp] theorem State.byteAt_setFp (i : FprNum) (v : FpReg) (x : Nat) : (s.setFp i v).byteAt x = s.byteAt x := by
  simp [State.byteAt]
@[simp] theorem State.status_setFp (i : FprNum) (v : FpReg) : (s.setFp i v).status = s.status := by
  simp [State.status]
@[simp] theorem State.free_setFp (i : FprNum) (v : FpReg) (k : Nat) : (s.setFp i v).free k = s.free k := by
  simp [State.free]
@[simp] theorem State.reg_setTlb (i : Nat) (e : TlbEntry) (q : RegNum) : (s.setTlb i e).reg q = s.reg q := rfl
@[simp] theorem State.fp_setTlb (i : Nat) (e : TlbEntry) (j : FprNum) : (s.setTlb i e).fp j = s.fp j := by
  simp [State.fp]
@[simp] theorem State.byteAt_setTlb (i : Nat) (e : TlbEntry) (x : Nat) : (s.setTlb i e).byteAt x = s.byteAt x := by
  simp [State.byteAt]
@[simp] theorem State.status_setTlb (i : Nat) (e : TlbEntry) : (s.setTlb i e).status = s.status := by
  simp [State.status]
@[simp] theorem State.free_setTlb (i : Nat) (e : TlbEntry) (k : Nat) : (s.setTlb i e).free k = s.free k := by
  simp [State.free]
@[simp] theorem State.reg_memWrite (pa : PAddr) (n : Nat) (v : Dword) (q : RegNum) :
    (s.memWrite pa n v).reg q = s.reg q := rfl
@[simp] theorem State.fp_memWrite (pa : PAddr) (n : Nat) (v : Dword) (j : FprNum) : (s.memWrite pa n v).fp j = s.fp j := by
  simp [State.fp]
@[simp] theorem State.status_memWrite (pa : PAddr) (n : Nat) (v : Dword) : (s.memWrite pa n v).status = s.status := by
  simp [State.status]
@[simp] theorem State.free_memWrite (pa : PAddr) (n : Nat) (v : Dword) (k : Nat) : (s.memWrite pa n v).free k = s.free k := by
  simp [State.free]
@[simp] theorem State.reg_noteAccess (q : RegNum) : (s.noteAccess).reg q = s.reg q := rfl
@[simp] theorem State.fp_noteAccess (j : FprNum) : (s.noteAccess).fp j = s.fp j := by simp [State.fp]
@[simp] theorem State.byteAt_noteAccess (x : Nat) : (s.noteAccess).byteAt x = s.byteAt x := by simp [State.byteAt]
@[simp] theorem State.status_noteAccess : (s.noteAccess).status = s.status := by simp [State.status]
@[simp] theorem State.free_noteAccess (k : Nat) : (s.noteAccess).free k = s.free k := by simp [State.free]
@[simp] theorem State.reg_setLink (pa : PAddr) (q : RegNum) : (s.setLink pa).reg q = s.reg q := rfl
@[simp] theorem State.fp_setLink (pa : PAddr) (j : FprNum) : (s.setLink pa).fp j = s.fp j := by simp [State.fp]
@[simp] theorem State.byteAt_setLink (pa : PAddr) (x : Nat) : (s.setLink pa).byteAt x = s.byteAt x := by
  simp [State.byteAt]
@[simp] theorem State.status_setLink (pa : PAddr) : (s.setLink pa).status = s.status := by simp [State.status]
@[simp] theorem State.free_setLink (pa : PAddr) (k : Nat) : (s.setLink pa).free k = s.free k := by simp [State.free]
@[simp] theorem State.reg_setRunState (r : RunState) (q : RegNum) : (s.setRunState r).reg q = s.reg q := rfl
@[simp] theorem State.fp_setRunState (r : RunState) (j : FprNum) : (s.setRunState r).fp j = s.fp j := by
  simp [State.fp]
@[simp] theorem State.byteAt_setRunState (r : RunState) (x : Nat) : (s.setRunState r).byteAt x = s.byteAt x := by
  simp [State.byteAt]
@[simp] theorem State.status_setRunState (r : RunState) : (s.setRunState r).status = s.status := by
  simp [State.status]
@[simp] theorem State.free_setRunState (r : RunState) (k : Nat) : (s.setRunState r).free k = s.free k := by
  simp [State.free]
@[simp] theorem State.reg_drew (n : Nat) (q : RegNum) : (s.drew n).reg q = s.reg q := rfl
@[simp] theorem State.fp_drew (n : Nat) (j : FprNum) : (s.drew n).fp j = s.fp j := by simp [State.fp]
@[simp] theorem State.byteAt_drew (n : Nat) (x : Nat) : (s.drew n).byteAt x = s.byteAt x := by simp [State.byteAt]
@[simp] theorem State.status_drew (n : Nat) : (s.drew n).status = s.status := by simp [State.status]
@[simp] theorem State.reg_advance (q : RegNum) : (s.advance).reg q = s.reg q := rfl
@[simp] theorem State.fp_advance (j : FprNum) : (s.advance).fp j = s.fp j := by simp [State.fp]
@[simp] theorem State.byteAt_advance (x : Nat) : (s.advance).byteAt x = s.byteAt x := by simp [State.byteAt]
@[simp] theorem State.status_advance : (s.advance).status = s.status := by simp [State.status]
@[simp] theorem State.free_advance (k : Nat) : (s.advance).free k = s.free k := by simp [State.free]
@[simp] theorem State.reg_jumpTo (a : Dword) (b : Bool) (q : RegNum) : (s.jumpTo a b).reg q = s.reg q := rfl
@[simp] theorem State.fp_jumpTo (a : Dword) (b : Bool) (j : FprNum) : (s.jumpTo a b).fp j = s.fp j := by
  simp [State.fp]
@[simp] theorem State.byteAt_jumpTo (a : Dword) (b : Bool) (x : Nat) : (s.jumpTo a b).byteAt x = s.byteAt x := by
  simp [State.byteAt]
@[simp] theorem State.status_jumpTo (a : Dword) (b : Bool) : (s.jumpTo a b).status = s.status := by
  simp [State.status]
@[simp] theorem State.free_jumpTo (a : Dword) (b : Bool) (k : Nat) : (s.jumpTo a b).free k = s.free k := by
  simp [State.free]
@[simp] theorem State.reg_passBranch (q : RegNum) : (s.passBranch).reg q = s.reg q := rfl
@[simp] theorem State.fp_passBranch (j : FprNum) : (s.passBranch).fp j = s.fp j := by simp [State.fp]
@[simp] theorem State.byteAt_passBranch (x : Nat) : (s.passBranch).byteAt x = s.byteAt x := by simp [State.byteAt]
@[simp] theorem State.status_passBranch : (s.passBranch).status = s.status := by simp [State.status]
@[simp] theorem State.free_passBranch (k : Nat) : (s.passBranch).free k = s.free k := by simp [State.free]
@[simp] theorem State.reg_nullify (q : RegNum) : (s.nullify).reg q = s.reg q := rfl
@[simp] theorem State.fp_nullify (j : FprNum) : (s.nullify).fp j = s.fp j := by simp [State.fp]
@[simp] theorem State.byteAt_nullify (x : Nat) : (s.nullify).byteAt x = s.byteAt x := by simp [State.byteAt]
@[simp] theorem State.status_nullify : (s.nullify).status = s.status := by simp [State.status]
@[simp] theorem State.free_nullify (k : Nat) : (s.nullify).free k = s.free k := by simp [State.free]
@[simp] theorem State.reg_setPc (a : Dword) (q : RegNum) : (s.setPc a).reg q = s.reg q := rfl
@[simp] theorem State.fp_setPc (a : Dword) (j : FprNum) : (s.setPc a).fp j = s.fp j := by simp [State.fp]
@[simp] theorem State.byteAt_setPc (a : Dword) (x : Nat) : (s.setPc a).byteAt x = s.byteAt x := by simp [State.byteAt]
@[simp] theorem State.status_setPc (a : Dword) : (s.setPc a).status = s.status := by simp [State.status]
@[simp] theorem State.free_setPc (a : Dword) (k : Nat) : (s.setPc a).free k = s.free k := by simp [State.free]
@[simp] theorem State.status_setCp0 (c : Cp0) : (s.setCp0 c).status = c.status := rfl
@[simp] theorem State.status_setStatus (st : Status) : (s.setStatus st).status = st := rfl

/-! ## Registers -/

@[simp] theorem State.reg_zero : s.reg 0#5 = 0 := rfl

theorem State.reg_of_ne {r : RegNum} (h : r ≠ 0) : s.reg r = s.gpr[r.toNat]'r.isLt := if_neg h

theorem State.setReg_of_ne {r : RegNum} (h : r ≠ 0) (v : Dword) :
    s.setReg r v = { s with gpr := s.gpr.set r.toNat v r.isLt } := if_neg h

@[simp] theorem State.setReg_zero (v : Dword) : s.setReg 0#5 v = s := rfl

@[simp] theorem State.reg_setReg_self (r : RegNum) (v : Dword) : (s.setReg r v).reg r = if r = 0 then 0 else v := by
  by_cases h : r = 0
  · subst h; rfl
  · rw [State.reg_of_ne _ h, State.setReg_of_ne _ h, if_neg h]; simp

theorem State.reg_setReg_ne (r q : RegNum) (v : Dword) (h : q ≠ r) : (s.setReg r v).reg q = s.reg q := by
  by_cases hr : r = 0
  · subst hr; rfl
  · have hn : r.toNat ≠ q.toNat := fun e => h (BitVec.eq_of_toNat_eq e.symm)
    by_cases hq : q = 0
    · subst hq; rfl
    · rw [State.reg_of_ne _ hq, State.reg_of_ne _ hq, State.setReg_of_ne _ hr]
      simp [hn]

@[simp] theorem State.fp_setFp_self (i : FprNum) (v : FpReg) : (s.setFp i v).fp i = v := by
  simp [State.fp, State.setFp]

theorem State.fp_setFp_ne (i j : FprNum) (v : FpReg) (h : j ≠ i) : (s.setFp i v).fp j = s.fp j := by
  have hn : i.toNat ≠ j.toNat := fun e => h (BitVec.eq_of_toNat_eq e.symm)
  simp [State.fp, State.setFp, hn]

/-! ## The fill bits of EntryHi (log 74) -/

@[simp] theorem EntryHi.write_fill (x : EntryHi) (w : Dword) : (x.write w).fill = x.fill := rfl
@[simp] theorem EntryHi.fillOf_true (v : Dword) : EntryHi.fillOf true v = 0 := rfl
@[simp] theorem EntryHi.fillOf_false (v : Dword) : EntryHi.fillOf false v = v.extractLsb' 40 22 := rfl

/-! ## Whole registers -/

/-- The registers as a whole: two states that agree on every `reg` agree on what any later instruction can read. -/
theorem State.reg_eq_of_gpr_eq {t : State} (h : t.gpr = s.gpr) (q : RegNum) : t.reg q = s.reg q := by
  simp [State.reg, h]

end Sys2Proof.Machine
end

