-- ==== Sys2Proof/Laws/Memory.lean ====
section
/-! SUPPORT. The laws of the byte list: reading after a write, and the canonical form that every operation keeps. -/

namespace Sys2Proof.Machine

/-! ## Reading -/

/-- Reading after `insert`. -/
theorem Memory.read_insert (m : List Host.Cell) (a x : Nat) (b : Byte) :
    Memory.read (Memory.insert m a b) x = if x = a then b else Memory.read m x := by
  induction m with
  | nil => simp only [Memory.insert, Memory.read]; split <;> split <;> simp_all
  | cons c m ih =>
    obtain ⟨k, c⟩ := c
    simp only [Memory.insert]
    split
    · simp only [Memory.read]; grind
    · split
      · simp only [Memory.read]; grind
      · simp only [Memory.read, ih]; grind

/-- Nothing is listed below the bound of a canonical list. -/
theorem Memory.read_below {m : List Host.Cell} {lo x : Nat} (h : Memory.wfFrom lo m = true) (hx : x < lo) :
    Memory.read m x = Memory.unlisted := by
  induction m generalizing lo with
  | nil => rfl
  | cons c m ih =>
    obtain ⟨k, c⟩ := c
    simp only [Memory.wfFrom, Bool.and_eq_true, decide_eq_true_eq] at h
    rw [Memory.read, if_neg (by omega)]
    exact ih h.2 (by omega)

/-- Reading elsewhere after `erase`. -/
theorem Memory.read_erase_ne (m : List Host.Cell) {a x : Nat} (h : x ≠ a) :
    Memory.read (Memory.erase m a) x = Memory.read m x := by
  induction m with
  | nil => rfl
  | cons c m ih =>
    obtain ⟨k, c⟩ := c
    simp only [Memory.erase]
    split
    · next e => rw [Memory.read, if_neg (by omega)]
    · rw [Memory.read, Memory.read, ih]

/-- Reading an erased address of a canonical list. -/
theorem Memory.read_erase_self {m : List Host.Cell} {lo a : Nat} (h : Memory.wfFrom lo m = true) :
    Memory.read (Memory.erase m a) a = Memory.unlisted := by
  induction m generalizing lo with
  | nil => rfl
  | cons c m ih =>
    obtain ⟨k, c⟩ := c
    simp only [Memory.wfFrom, Bool.and_eq_true, decide_eq_true_eq] at h
    simp only [Memory.erase]
    split
    · next e => exact Memory.read_below h.2 (by omega)
    · next e => rw [Memory.read, if_neg e]; exact ih h.2

/-- A write leaves every other address alone. -/
theorem Memory.read_write_ne (m : List Host.Cell) {a x : Nat} (b : Byte) (h : x ≠ a) :
    Memory.read (Memory.write m a b) x = Memory.read m x := by
  unfold Memory.write
  split
  · exact Memory.read_erase_ne m h
  · rw [Memory.read_insert, if_neg h]

/-- A write to a canonical list is read back. -/
theorem Memory.read_write_self {m : List Host.Cell} (h : Memory.wf m = true) (a : Nat) (b : Byte) :
    Memory.read (Memory.write m a b) a = b := by
  unfold Memory.write
  split
  · next e => rw [Memory.read_erase_self h, e]
  · rw [Memory.read_insert, if_pos rfl]

/-! ## The canonical form -/

/-- A canonical list is canonical from every lower bound. -/
theorem Memory.wfFrom_mono {m : List Host.Cell} {lo lo' : Nat} (hle : lo' ≤ lo) (h : Memory.wfFrom lo m = true) :
    Memory.wfFrom lo' m = true := by
  cases m with
  | nil => rfl
  | cons c m =>
    obtain ⟨k, c⟩ := c
    simp only [Memory.wfFrom, Bool.and_eq_true, decide_eq_true_eq] at h ⊢
    exact ⟨⟨by omega, h.1.2⟩, h.2⟩

theorem Memory.wfFrom_insert {m : List Host.Cell} {lo a : Nat} {b : Byte} (hb : b ≠ Memory.unlisted) (ha : lo ≤ a)
    (h : Memory.wfFrom lo m = true) : Memory.wfFrom lo (Memory.insert m a b) = true := by
  induction m generalizing lo with
  | nil => simpa [Memory.insert, Memory.wfFrom, ha] using hb
  | cons c m ih =>
    obtain ⟨k, c⟩ := c
    simp only [Memory.wfFrom, Bool.and_eq_true, decide_eq_true_eq, bne_iff_ne] at h
    simp only [Memory.insert]
    split
    · simp only [Memory.wfFrom, Bool.and_eq_true, decide_eq_true_eq, bne_iff_ne]
      exact ⟨⟨ha, hb⟩, ⟨by omega, h.1.2⟩, h.2⟩
    · split
      · next e =>
        simp only [Memory.wfFrom, Bool.and_eq_true, decide_eq_true_eq, bne_iff_ne]
        exact ⟨⟨ha, hb⟩, e ▸ h.2⟩
      · simp only [Memory.wfFrom, Bool.and_eq_true, decide_eq_true_eq, bne_iff_ne]
        exact ⟨h.1, ih (by omega) h.2⟩

theorem Memory.wfFrom_erase {m : List Host.Cell} {lo a : Nat} (h : Memory.wfFrom lo m = true) :
    Memory.wfFrom lo (Memory.erase m a) = true := by
  induction m generalizing lo with
  | nil => rfl
  | cons c m ih =>
    obtain ⟨k, c⟩ := c
    simp only [Memory.wfFrom, Bool.and_eq_true, decide_eq_true_eq] at h
    simp only [Memory.erase]
    split
    · exact Memory.wfFrom_mono (by omega) h.2
    · simp only [Memory.wfFrom, Bool.and_eq_true, decide_eq_true_eq]
      exact ⟨h.1, ih h.2⟩

/-- A byte write keeps the canonical form. -/
theorem Memory.wf_write {m : List Host.Cell} (h : Memory.wf m = true) (a : Nat) (b : Byte) :
    Memory.wf (Memory.write m a b) = true := by
  unfold Memory.write
  split
  · exact Memory.wfFrom_erase h
  · next e => exact Memory.wfFrom_insert e (Nat.zero_le a) h

/-- A write of bytes keeps the canonical form. -/
theorem Memory.wf_writeBytes {m : List Host.Cell} (h : Memory.wf m = true) (a : Nat) (bs : List Byte) :
    Memory.wf (Memory.writeBytes m a bs) = true := by
  induction bs generalizing m a with
  | nil => exact h
  | cons b bs ih => exact ih (Memory.wf_write h a b) (a + 1)

/-- A store keeps the canonical form. -/
theorem Memory.wf_store {m : List Host.Cell} (h : Memory.wf m = true) (be : Bool) (pa : PAddr) (n : Nat) (v : Dword) :
    Memory.wf (Memory.store be m pa n v) = true := Memory.wf_writeBytes h _ _

/-- A store keeps the canonical form of the machine's memory. -/
theorem State.wf_memWrite {s : State} (h : Memory.wf s.mem = true) (pa : PAddr) (n : Nat) (v : Dword) :
    Memory.wf (s.memWrite pa n v).mem = true := Memory.wf_store h _ _ _ _

/-! ## Bytes -/

/-- A write of bytes leaves every other address alone. -/
theorem Memory.read_writeBytes_outside (m : List Host.Cell) (a x : Nat) (bs : List Byte)
    (h : x < a ∨ a + bs.length ≤ x) : Memory.read (Memory.writeBytes m a bs) x = Memory.read m x := by
  induction bs generalizing m a with
  | nil => rfl
  | cons b bs ih =>
    simp only [List.length_cons] at h
    rw [Memory.writeBytes, ih _ _ (by omega), Memory.read_write_ne m b (by omega)]

/-- A write of bytes to a canonical list is read back. -/
theorem Memory.read_writeBytes_inside {m : List Host.Cell} (hm : Memory.wf m = true) (a i : Nat) (bs : List Byte)
    (h : i < bs.length) : Memory.read (Memory.writeBytes m a bs) (a + i) = bs[i] := by
  induction bs generalizing m a i with
  | nil => simp at h
  | cons b bs ih =>
    rw [Memory.writeBytes]
    cases i with
    | zero =>
      rw [Memory.read_writeBytes_outside _ _ _ _ (by omega)]
      exact Memory.read_write_self hm a b
    | succ i =>
      have := ih (Memory.wf_write hm a b) (a + 1) i (by simpa using h)
      rw [show a + (i + 1) = a + 1 + i by omega, this]; rfl

@[simp] theorem littleBytes_length (n v : Nat) : (littleBytes n v).length = n := by
  induction n generalizing v with
  | zero => rfl
  | succ n ih => simp [littleBytes, ih]

@[simp] theorem inByteOrder_length (be : Bool) (bs : List Byte) : (inByteOrder be bs).length = bs.length := by
  unfold inByteOrder; split <;> simp

@[simp] theorem readBytes_length (m : List Host.Cell) (a n : Nat) : (Memory.readBytes m a n).length = n := by
  induction n generalizing a with
  | zero => rfl
  | succ n ih => simp [Memory.readBytes, ih]

/-- A store changes no byte outside its own. -/
theorem State.byteAt_memWrite_outside (s : State) (pa : PAddr) (n : Nat) (v : Dword) (x : Nat)
    (h : x < pa.toNat ∨ pa.toNat + n ≤ x) : (s.memWrite pa n v).byteAt x = s.byteAt x := by
  unfold State.byteAt State.memWrite Memory.store
  exact Memory.read_writeBytes_outside _ _ _ _ (by simpa using h)

/-- A load depends only on the bytes it reads. -/
theorem readBytes_congr {m m' : List Host.Cell} (a n : Nat) (h : ∀ x, a ≤ x → x < a + n → Memory.read m x = Memory.read m' x) :
    Memory.readBytes m a n = Memory.readBytes m' a n := by
  induction n generalizing a with
  | zero => rfl
  | succ n ih =>
    rw [Memory.readBytes, Memory.readBytes, h a (by omega) (by omega), ih (a + 1) fun x h1 h2 => h x (by omega) (by omega)]

/-- A byte of a value, by its number from the least significant end. -/
theorem littleBytes_getElem (n v i : Nat) (h : i < (littleBytes n v).length) :
    (littleBytes n v)[i] = BitVec.ofNat 8 (v / 256 ^ i) := by
  induction n generalizing v i with
  | zero => simp [littleBytes] at h
  | succ n ih =>
    cases i with
    | zero => simp [littleBytes]
    | succ i =>
      have h' : i < (littleBytes n (v / 256)).length := by simpa [littleBytes] using h
      simp only [littleBytes, List.getElem_cons_succ]
      rw [ih (v / 256) i h', Nat.div_div_eq_div_mul, Nat.pow_succ, Nat.mul_comm]

/-- A store to a canonical memory writes the bytes of its value in the machine's byte order. -/
theorem State.byteAt_memWrite_inside {s : State} (hm : Memory.wf s.mem = true) (pa : PAddr) (n : Nat) (v : Dword)
    (i : Nat) (h : i < n) :
    (s.memWrite pa n v).byteAt (pa.toNat + i) = (v >>> (8 * (if s.pins.bigEndian then n - 1 - i else i))).setWidth 8 := by
  have key : ∀ k, BitVec.ofNat 8 (v.toNat / 256 ^ k) = (v >>> (8 * k)).setWidth 8 := fun k => by
    apply BitVec.eq_of_toNat_eq
    simp [Nat.shiftRight_eq_div_pow, Nat.pow_mul]
  unfold State.byteAt State.memWrite Memory.store
  rw [Memory.read_writeBytes_inside hm _ _ _ (by simpa using h)]
  unfold inByteOrder
  cases s.pins.bigEndian
  · simp [littleBytes_getElem, key]
  · simp [littleBytes_getElem, key]

end Sys2Proof.Machine
end

