-- ==== Sys2Proof/Laws/Ops.lean ====
section
/-! SUPPORT. What each shared operation can do: the gates, the ends of the instructions, data accesses, taking an
exception. A proof about an instruction cites these and unfolds no operation. -/

namespace Sys2Proof.Machine

variable {s t : State}

/-! ## Gates -/

theorem needCp0_of (h : s.status.cp0Usable = true) (k : Result) : needCp0 s k = k := if_pos h
theorem needCp0_not (h : s.status.cp0Usable = false) (k : Result) :
    needCp0 s k = .next (takeException (.coprocessorUnusable 0) s) := if_neg (by simp [h])
theorem needFpu_of (h : s.status.cu1 = true) (k : Result) : needFpu s k = k := if_pos h
theorem needFpu_not (h : s.status.cu1 = false) (k : Result) :
    needFpu s k = .next (takeException (.coprocessorUnusable 1) s) := if_neg (by simp [h])
theorem need64_of (h : s.status.ops64 = true) (k : Result) : need64 s k = k := if_pos h
theorem need64_not (h : s.status.ops64 = false) (k : Result) :
    need64 s k = .next (takeException .reservedInstruction s) := if_neg (by simp [h])
theorem needMips4_of (h : s.status.mips4 = true) (k : Result) : needMips4 s k = k := if_pos h
theorem needMips4_not (h : s.status.mips4 = false) (k : Result) :
    needMips4 s k = .next (takeException .reservedInstruction s) := if_neg (by simp [h])
theorem needMips4Fp_of (h : s.status.mips4 = true) (k : Result) : needMips4Fp s k = k := if_pos h
theorem needMips4Fp_not (h : s.status.mips4 = false) (k : Result) : needMips4Fp s k = raiseUnimplemented s :=
  if_neg (by simp [h])
theorem needCc_of {cc : BitVec 3} (h : cc = 0 ∨ s.status.mips4 = true) (k : Result) : needCc s cc k = k := by
  unfold needCc
  split
  · rfl
  · next hc => exact needMips4Fp_of (h.resolve_left hc) k
theorem needCc_not {cc : BitVec 3} (hc : cc ≠ 0) (h : s.status.mips4 = false) (k : Result) :
    needCc s cc k = raiseUnimplemented s := by rw [needCc, if_neg hc, needMips4Fp_not h]
theorem needNoSlot_of (h : s.inDelay = false) (k : Result) : needNoSlot s k = k := if_neg (by simp [h])
theorem needNoSlot_not (h : s.inDelay = true) (k : Result) : needNoSlot s k = .refused .branchInDelaySlot := if_pos h
theorem needEvenFp_of {l : List FprNum} (h : l.any s.oddFp = false) (k : Result) : needEvenFp s l k = k :=
  if_neg (by simp [h])
theorem needEvenFp_not {l : List FprNum} (h : l.any s.oddFp = true) (k : Result) :
    needEvenFp s l k = .refused .oddFpRegister := if_pos h

/-! ## Nothing changed -/

theorem SameRegs.refl (s : State) : SameRegs s s := fun _ => rfl
theorem SameFpRegs.refl (s : State) : SameFpRegs s s := fun _ => rfl
theorem SameMemory.refl (s : State) : SameMemory s s := fun _ => rfl
theorem SameHiLo.refl (s : State) : SameHiLo s s := ⟨rfl, rfl⟩
theorem SameLink.refl (s : State) : SameLink s s := ⟨rfl, rfl⟩
theorem SameWorld.refl (s : State) : SameWorld s s := ⟨rfl, rfl, rfl, rfl, rfl⟩
theorem SameSystem.refl (s : State) : SameSystem s s := ⟨rfl, rfl, .refl s, .refl s⟩

/-- Where the CP0 registers, the TLB, the link and the world are, field for field. -/
theorem SameSystem.of (h1 : t.cp0 = s.cp0) (h2 : t.tlb = s.tlb) (h3 : t.llBit = s.llBit) (h4 : t.linkAddr = s.linkAddr)
    (h5 : t.runState = s.runState) (h6 : t.pins = s.pins) (h7 : t.inputs = s.inputs) (h8 : t.env = s.env)
    (h9 : t.raised = s.raised) : SameSystem s t := ⟨h1, h2, ⟨h3, h4⟩, ⟨h5, h6, h7, h8, h9⟩⟩

/-! ## The ends of the instructions -/

/-- The effect of an instruction that writes one general register. -/
theorem gprEffect_setReg (s : State) (rd : RegNum) (v : Dword) (n : Nat) :
    GprEffect s ((s.setReg rd v).drew n).advance rd v where
  value := by simp
  regs := fun r h => by simp [State.reg_setReg_ne _ _ _ _ h]
  hiLo := by constructor <;> simp
  fpRegs := fun i => by simp
  fcr31 := by simp
  system := by apply SameSystem.of <;> simp
  memory := fun a => by simp

/-- The same without a draw. -/
theorem gprEffect_setReg' (s : State) (rd : RegNum) (v : Dword) : GprEffect s (s.setReg rd v).advance rd v where
  value := by simp
  regs := fun r h => by simp [State.reg_setReg_ne _ _ _ _ h]
  hiLo := by constructor <;> simp
  fpRegs := fun i => by simp
  fcr31 := by simp
  system := by apply SameSystem.of <;> simp
  memory := fun a => by simp

/-- The next instruction in sequence follows an `advance` of a state that has not moved. -/
theorem advanced_advance (h : t.npc = s.npc) : Advanced s t.advance := by
  simp [Advanced, ContinuesAt, h]

theorem computes_of_writeReg {i : Instr} {rd : RegNum} {v : Dword} (h : exec i s = writeReg s rd v) :
    Computes i s rd v := ⟨_, h, advanced_advance (by simp), gprEffect_setReg' s rd v⟩

theorem computes_of_drew {i : Instr} {rd : RegNum} {v : Dword} {n : Nat}
    (h : exec i s = .next ((s.setReg rd v).drew n).advance) : Computes i s rd v :=
  ⟨_, h, advanced_advance (by simp), gprEffect_setReg s rd v n⟩

theorem doesNothing_of_advance {i : Instr} (h : exec i s = .next s.advance) : DoesNothing i s :=
  ⟨_, h, advanced_advance rfl, by simpa using gprEffect_setReg' s 0 0⟩

/-- A word operation answers `wordValue` when its `valid` is that of the registers. -/
theorem computes_of_writeWord {i : Instr} {rd a b : RegNum} {w : Word}
    (h : exec i s = writeWord s (isSext (s.reg a) && isSext (s.reg b)) rd w) :
    Computes i s rd (wordValue s a b w) := by
  unfold writeWord at h
  unfold wordValue
  split at h
  · next c => rw [if_pos c]; exact computes_of_writeReg h
  · next c => rw [if_neg c]; exact computes_of_drew h

@[simp] theorem isSext_zero : isSext 0#64 = true := rfl

/-! ## HI and LO -/

/-- The effect of an instruction that writes HI, LO and one general register. -/
theorem hiLoEffect_setHiLo (s : State) (hi lo : Dword) (rd : RegNum) (v : Dword) :
    HiLoEffect s ((s.setHiLo hi lo).setReg rd v).advance hi lo rd v where
  hi := by simp
  lo := by simp
  value := by simp
  regs := fun r h => by simp [State.reg_setReg_ne _ _ _ _ h]
  fpRegs := fun i => by simp
  fcr31 := by simp
  system := by apply SameSystem.of <;> simp
  memory := fun a => by simp

/-- The effect depends on nothing but what a claim can see. -/
theorem HiLoEffect.congr {u : State} {hi lo : Dword} {rd : RegNum} {v : Dword} (h : HiLoEffect s t hi lo rd v)
    (h1 : u.hi = t.hi) (h2 : u.lo = t.lo) (h3 : u.gpr = t.gpr) (h4 : u.fpr = t.fpr) (h5 : u.fcr31 = t.fcr31)
    (h6 : u.mem = t.mem) (h7 : SameSystem t u) : HiLoEffect s u hi lo rd v where
  hi := h1.trans h.hi
  lo := h2.trans h.lo
  value := (State.reg_eq_of_gpr_eq t h3 rd).trans h.value
  regs := fun r hr => (State.reg_eq_of_gpr_eq t h3 r).trans (h.regs r hr)
  fpRegs := fun i => by rw [← h.fpRegs i]; simp [State.fp, h4]
  fcr31 := h5.trans h.fcr31
  system := ⟨h7.cp0.trans h.system.cp0, h7.tlb.trans h.system.tlb,
    ⟨h7.link.1.trans h.system.link.1, h7.link.2.trans h.system.link.2⟩,
    ⟨h7.world.1.trans h.system.world.1, h7.world.2.trans h.system.world.2, h7.world.3.trans h.system.world.3,
      h7.world.4.trans h.system.world.4, h7.world.5.trans h.system.world.5⟩⟩
  memory := fun a => by rw [← h.memory a]; simp [State.byteAt, h6]

/-- The accumulator operations of the MACC family. -/
theorem computesHiLo_of_maccLow {i : Instr} {rd : RegNum} {x : Dword} (h : exec i s = maccLow s rd x) :
    ComputesHiLo i s (sext (high x)) (sext (low x)) rd (sext (low x)) :=
  ⟨_, h, advanced_advance (by simp [State.setAcc]), hiLoEffect_setHiLo s _ _ _ _⟩
theorem computesHiLo_of_maccHigh {i : Instr} {rd : RegNum} {x : Dword} (h : exec i s = maccHigh s rd x) :
    ComputesHiLo i s (sext (high x)) (sext (low x)) rd (sext (high x)) :=
  ⟨_, h, advanced_advance (by simp [State.setAcc]), hiLoEffect_setHiLo s _ _ _ _⟩

/-- An instruction that writes HI and LO alone. -/
theorem computesHiLo_of_setHiLo {i : Instr} {hi lo : Dword} (h : exec i s = .next (s.setHiLo hi lo).advance) :
    ComputesHiLo i s hi lo 0 0 :=
  ⟨_, h, advanced_advance (by simp), by simpa using hiLoEffect_setHiLo s hi lo 0 0⟩

/-! ## Sums and products -/

theorem InWord.iff_sext (x : Int) : InWord x ↔ (BitVec.ofInt 32 x).toInt = x := by
  unfold InWord
  rw [BitVec.toInt_ofInt, Int.bmod_def]
  split <;> omega

theorem InDword.iff (x : Int) : InDword x ↔ (BitVec.ofInt 64 x).toInt = x := by
  unfold InDword
  rw [BitVec.toInt_ofInt, Int.bmod_def]
  split <;> omega

theorem toInt_sext (w : Word) : (sext w).toInt = w.toInt := BitVec.toInt_signExtend_of_le (by decide)

/-- A 32-bit sum overflows exactly when the exact sum does not fit. -/
theorem addOverflows32_iff (a b : Word) : addOverflows32 a b = true ↔ ¬ InWord (a.toInt + b.toInt) := by
  unfold addOverflows32
  rw [bne_iff_ne, ← BitVec.toInt_ne, BitVec.toInt_add, toInt_sext, toInt_sext, toInt_sext, BitVec.toInt_add]
  unfold InWord
  have := a.toInt_lt; have := a.le_toInt; have := b.toInt_lt; have := b.le_toInt
  simp only [Int.bmod_def]
  split <;> split <;> omega

/-- A 32-bit difference overflows exactly when the exact difference does not fit. -/
theorem subOverflows32_iff (a b : Word) : subOverflows32 a b = true ↔ ¬ InWord (a.toInt - b.toInt) := by
  unfold subOverflows32
  rw [bne_iff_ne, ← BitVec.toInt_ne, BitVec.toInt_sub, toInt_sext, toInt_sext, toInt_sext, BitVec.toInt_sub]
  unfold InWord
  have := a.toInt_lt; have := a.le_toInt; have := b.toInt_lt; have := b.le_toInt
  simp only [Int.bmod_def]
  split <;> split <;> omega

/-- A 64-bit sum overflows exactly when the exact sum does not fit. -/
theorem addOverflows64_iff (a b : Dword) : addOverflows64 a b = true ↔ ¬ InDword (a.toInt + b.toInt) := by
  unfold addOverflows64
  rw [bne_iff_ne, ← BitVec.toInt_ne, BitVec.toInt_add, BitVec.toInt_signExtend_of_le (by decide),
    BitVec.toInt_signExtend_of_le (by decide), BitVec.toInt_signExtend_of_le (by decide), BitVec.toInt_add]
  unfold InDword
  have := a.toInt_lt; have := a.le_toInt; have := b.toInt_lt; have := b.le_toInt
  simp only [Int.bmod_def]
  split <;> split <;> omega

/-- A 64-bit difference overflows exactly when the exact difference does not fit. -/
theorem subOverflows64_iff (a b : Dword) : subOverflows64 a b = true ↔ ¬ InDword (a.toInt - b.toInt) := by
  unfold subOverflows64
  rw [bne_iff_ne, ← BitVec.toInt_ne, BitVec.toInt_sub, BitVec.toInt_signExtend_of_le (by decide),
    BitVec.toInt_signExtend_of_le (by decide), BitVec.toInt_signExtend_of_le (by decide), BitVec.toInt_sub]
  unfold InDword
  have := a.toInt_lt; have := a.le_toInt; have := b.toInt_lt; have := b.le_toInt
  simp only [Int.bmod_def]
  split <;> split <;> omega

/-- The signed product is the exact one: 64 bits hold it. -/
theorem productS_eq (a b : Word) : productS a b = BitVec.ofInt 64 (a.toInt * b.toInt) := by
  unfold productS
  rw [← toInt_sext a, ← toInt_sext b, BitVec.ofInt_mul, BitVec.ofInt_toInt, BitVec.ofInt_toInt]

/-- The unsigned product is the exact one. -/
theorem productU_eq (a b : Word) : productU a b = BitVec.ofNat 64 (a.toNat * b.toNat) := by
  unfold productU
  apply BitVec.eq_of_toNat_eq
  simp

/-- The accumulator as an integer. -/
theorem acc_eq (s : State) :
    s.acc = BitVec.ofInt 64 ((low s.hi).toNat * 2 ^ 32 + (low s.lo).toNat : Nat) := by
  unfold State.acc
  apply BitVec.eq_of_toNat_eq
  rw [BitVec.toNat_append, BitVec.ofInt_natCast, BitVec.toNat_ofNat,
    Nat.shiftLeft_eq, Nat.mod_eq_of_lt (by have := (low s.hi).isLt; have := (low s.lo).isLt; omega)]
  rw [← Nat.shiftLeft_eq, Nat.shiftLeft_add_eq_or_of_lt (low s.lo).isLt]

/-! ## Data accesses -/

theorem withData_ok {va : Dword} {n : Nat} {store : Bool} {pa : PAddr} {attr : CacheAttr}
    (h : Accessible s va n store pa attr) (k : PAddr → CacheAttr → Result) : withData s va n store k = k pa attr := by
  unfold withData
  rw [h.1]
  simp only [h.2]

theorem withData_error {va : Dword} {n : Nat} {store : Bool} {e : Exc}
    (h : s.dataAddr va n store = .error e ∨
      ∃ pa attr, s.dataAddr va n store = .ok (pa, attr) ∧ s.accessFault pa attr store = some e)
    (k : PAddr → CacheAttr → Result) : withData s va n store k = .next (takeException e s) := by
  unfold withData
  rcases h with h | ⟨pa, attr, h1, h2⟩
  · rw [h]; rfl
  · rw [h1]; simp only [h2]; rfl

/-- Every data access takes an exception, or runs what follows it. -/
theorem withData_cases (s : State) (va : Dword) (n : Nat) (store : Bool) (k : PAddr → CacheAttr → Result) :
    (∃ e, withData s va n store k = .next (takeException e s)) ∨
      ∃ pa attr, Accessible s va n store pa attr ∧ withData s va n store k = k pa attr := by
  rcases h1 : s.dataAddr va n store with e | ⟨pa, attr⟩
  · exact .inl ⟨e, withData_error (.inl h1) k⟩
  · rcases h2 : s.accessFault pa attr store with _ | e
    · exact .inr ⟨pa, attr, ⟨h1, h2⟩, withData_ok ⟨h1, h2⟩ k⟩
    · exact .inl ⟨e, withData_error (.inr ⟨pa, attr, h1, h2⟩) k⟩

/-- What a load into a general register changes. -/
theorem gprEffect_load (s : State) (rd : RegNum) (v : Dword) : GprEffect s (s.setReg rd v).noteAccess.advance rd v where
  value := by simp
  regs := fun r h => by simp [State.reg_setReg_ne _ _ _ _ h]
  hiLo := by constructor <;> simp
  fpRegs := fun i => by simp
  fcr31 := by simp
  system := by apply SameSystem.of <;> simp
  memory := fun a => by simp

/-- What a store changes, in a canonical memory. -/
theorem storeEffect_memWrite (hc : s.Canonical) (pa : PAddr) (n : Nat) (v : Dword) :
    StoreEffect s (s.memWrite pa n v).noteAccess.advance pa.toNat n v 0 0 where
  bytes := fun i hi => by
    simp only [State.byteAt_advance, State.byteAt_noteAccess]
    exact State.byteAt_memWrite_inside hc pa n v i hi
  memory := fun x hx => by simpa using State.byteAt_memWrite_outside s pa n v x hx
  value := by simp
  regs := fun r _ => by simp
  hiLo := by constructor <;> simp
  fpRegs := fun i => by simp
  fcr31 := by simp
  system := by apply SameSystem.of <;> simp

/-- An instruction that is one data access takes the exception of its access. -/
theorem takes_of_withData {i : Instr} {va : Dword} {n : Nat} {store : Bool} {k : PAddr → CacheAttr → Result}
    (hi : exec i s = withData s va n store k) : TakesAccessException i s va n store :=
  fun _ h => hi.trans (withData_error h k)

/-- A load completes where its access raises nothing. -/
theorem computes_of_loadReg {i : Instr} {va : Dword} {n : Nat} {rt : RegNum} {f : Dword → Dword} {pa : PAddr}
    {attr : CacheAttr} (hi : exec i s = loadReg s va n rt f) (h : Accessible s va n false pa attr) :
    Computes i s rt (f (s.memRead pa n)) :=
  ⟨_, hi.trans (withData_ok h _), advanced_advance (by simp), gprEffect_load s rt _⟩

/-- A left or right load completes where its access raises nothing. -/
theorem computes_of_loadPart {i : Instr} {va : Dword} {rt : RegNum} {f : PAddr → Dword} {pa : PAddr}
    {attr : CacheAttr} (hi : exec i s = loadPart s va rt f) (h : Accessible s va 1 false pa attr) :
    Computes i s rt (f pa) :=
  ⟨_, hi.trans (withData_ok h _), advanced_advance (by simp), gprEffect_load s rt _⟩

/-- A store completes where its access raises nothing. -/
theorem stores_of_storeBytes {i : Instr} {va : Dword} {n : Nat} {v : Dword} {pa : PAddr} {attr : CacheAttr}
    (hc : s.Canonical) (hi : exec i s = storeBytes s va n v) (h : Accessible s va n true pa attr) :
    Stores i s pa n v :=
  ⟨_, hi.trans (withData_ok h _), advanced_advance (by simp), storeEffect_memWrite hc _ _ _⟩

/-- A left or right store completes where its access raises nothing. -/
theorem stores_of_storePart {i : Instr} {va : Dword} {f : PAddr → Nat → PAddr} {n : Nat} {v : Dword} {pa : PAddr}
    {attr : CacheAttr} (hc : s.Canonical) (hi : exec i s = storePart s va f n v) (h : Accessible s va 1 true pa attr) :
    Stores i s (f pa n) n v :=
  ⟨_, hi.trans (withData_ok h _), advanced_advance (by simp), storeEffect_memWrite hc _ _ _⟩

/-! ## Merging -/

/-- The bits of `mergeLeft`: the old ones below the shift, the new ones from it on. -/
theorem getLsbD_mergeLeft {n : Nat} (new old : BitVec n) (k i : Nat) (h : i < n) :
    (mergeLeft new old k).getLsbD i = if i < k then old.getLsbD i else new.getLsbD (i - k) := by
  have h' : i - k < n := by omega
  unfold mergeLeft
  by_cases c : i < k <;> simp [BitVec.getLsbD_or, BitVec.getLsbD_and, BitVec.getLsbD_not, BitVec.getLsbD_shiftLeft,
    BitVec.getLsbD_allOnes, c, h, h', -BitVec.getLsbD_eq_getElem]

/-- The bits of `mergeRight`: the new ones where the shifted value reaches, the old ones above. -/
theorem getLsbD_mergeRight {n : Nat} (new old : BitVec n) (k i : Nat) (h : i < n) :
    (mergeRight new old k).getLsbD i = if i < n - k then new.getLsbD (k + i) else old.getLsbD i := by
  unfold mergeRight
  by_cases c : i < n - k
  · have : k + i < n := by omega
    simp [BitVec.getLsbD_or, BitVec.getLsbD_and, BitVec.getLsbD_not, BitVec.getLsbD_ushiftRight,
      BitVec.getLsbD_allOnes, c, h, this, -BitVec.getLsbD_eq_getElem]
  · have : ¬ k + i < n := by omega
    have e : new.getLsbD (k + i) = false := BitVec.getLsbD_of_ge _ _ (by omega)
    simp [BitVec.getLsbD_or, BitVec.getLsbD_and, BitVec.getLsbD_not, BitVec.getLsbD_ushiftRight,
      BitVec.getLsbD_allOnes, c, h, this, e, -BitVec.getLsbD_eq_getElem]

/-- The aligned doubleword of an address. -/
theorem dwordBase_toNat (pa : PAddr) : (dwordBase pa).toNat = pa.toNat / 8 * 8 := by
  unfold dwordBase
  rw [BitVec.toNat_append, BitVec.extractLsb'_toNat, Nat.shiftRight_eq_div_pow, Nat.shiftLeft_eq]
  have := pa.isLt
  simp
  omega

/-! ## Store conditional -/

/-- The exception of the address of an SC or SCD is taken, whatever the LL bit (log 27). -/
theorem storeConditional_error {va : Dword} {n : Nat} (rt : RegNum) {e : Exc} (h : s.dataAddr va n true = .error e) :
    storeConditional s va n rt = raise e s := by
  simp [storeConditional, h]

/-! ## Taking an exception -/

@[simp] theorem takeException_raised (e : Exc) (s : State) : (takeException e s).raised = true := rfl
@[simp] theorem takeException_mem (e : Exc) (s : State) : (takeException e s).mem = s.mem := by
  cases e <;> rfl
@[simp] theorem takeException_gpr (e : Exc) (s : State) : (takeException e s).gpr = s.gpr := by
  cases e <;> rfl
@[simp] theorem takeException_exl (e : Exc) (s : State) : (takeException e s).status.exl = true := rfl

end Sys2Proof.Machine
end

