-- ==== Sys2Proof/Laws/Fetch.lean ====
section
/-! SUPPORT. What a step can do, said once: the events of its batch, the ways it ends, the attempt to run an
instruction; and what placing an instruction does to memory. -/

namespace Sys2Proof.Machine

variable {s t : State}

/-! ## The batch of events -/

@[simp] theorem deliverEvent_mem (s : State) (e : EnvEvent) : (s.deliverEvent e).mem = s.mem := by cases e <;> rfl
@[simp] theorem deliverEvent_gpr (s : State) (e : EnvEvent) : (s.deliverEvent e).gpr = s.gpr := by cases e <;> rfl
@[simp] theorem deliverEvent_tlb (s : State) (e : EnvEvent) : (s.deliverEvent e).tlb = s.tlb := by cases e <;> rfl
@[simp] theorem deliverEvent_pc (s : State) (e : EnvEvent) : (s.deliverEvent e).pc = s.pc := by cases e <;> rfl

@[simp] theorem deliverEvent_raised (s : State) (e : EnvEvent) : (s.deliverEvent e).raised = s.raised := by
  cases e <;> rfl

/-- What no event writes, no batch writes. -/
theorem foldl_deliverEvent {α : Type} (f : State → α) (h : ∀ s e, f (s.deliverEvent e) = f s) (l : List EnvEvent)
    (s : State) : f (l.foldl State.deliverEvent s) = f s := by
  induction l generalizing s with
  | nil => rfl
  | cons e l ih => rw [List.foldl_cons, ih, h]

@[simp] theorem deliver_mem (s : State) : s.deliver.mem = s.mem := foldl_deliverEvent (·.mem) deliverEvent_mem _ _
@[simp] theorem deliver_gpr (s : State) : s.deliver.gpr = s.gpr := foldl_deliverEvent (·.gpr) deliverEvent_gpr _ _
@[simp] theorem deliver_tlb (s : State) : s.deliver.tlb = s.tlb := foldl_deliverEvent (·.tlb) deliverEvent_tlb _ _
@[simp] theorem deliver_pc (s : State) : s.deliver.pc = s.pc := foldl_deliverEvent (·.pc) deliverEvent_pc _ _

/-- No exception has been taken yet when a step has delivered its batch. -/
@[simp] theorem deliver_raised (s : State) : s.deliver.raised = false :=
  foldl_deliverEvent (·.raised) deliverEvent_raised _ _

/-! The reset pins (70_reset_and_hazards.md rule R1103). -/

@[simp] theorem assertReset_runState (s : State) : s.assertReset.runState = .held := rfl
@[simp] theorem assertReset_resetPin (s : State) : s.assertReset.inputs.resetPin = true := rfl
@[simp] theorem assertColdReset_runState (s : State) : s.assertColdReset.runState = .held := rfl
@[simp] theorem assertColdReset_coldResetPin (s : State) : s.assertColdReset.inputs.coldResetPin = true := rfl
@[simp] theorem releaseReset_resetPin (s : State) : s.releaseReset.inputs.resetPin = false := rfl
@[simp] theorem releaseColdReset_runState (s : State) (p : Pins) : (s.releaseColdReset p).runState = s.runState := rfl
@[simp] theorem coldResetWith_runState (s : State) (p : Pins) :
    (s.coldResetWith p).runState = if s.inputs.resetPin then .held else .running := rfl
@[simp] theorem takeNmi_nmiPending (s : State) : s.takeNmi.inputs.nmiPending = s.inputs.nmiPending - 1 := rfl

/-- A processor that is held in reset, with no reset to perform, does nothing. -/
theorem afterEvents_held (hc : s.inputs.coldReset = none) (hs : s.inputs.softReset = false)
    (h : s.runState = .held) : s.afterEvents = .next s := by
  simp [State.afterEvents, hc, hs, h]

@[simp] theorem countWhen_mem (s : State) (e : BitVec 4) (b : Bool) : (s.countWhen e b).mem = s.mem := rfl
@[simp] theorem countWhen_gpr (s : State) (e : BitVec 4) (b : Bool) : (s.countWhen e b).gpr = s.gpr := rfl
@[simp] theorem countWhen_tlb (s : State) (e : BitVec 4) (b : Bool) : (s.countWhen e b).tlb = s.tlb := rfl
@[simp] theorem countWhen_pc (s : State) (e : BitVec 4) (b : Bool) : (s.countWhen e b).pc = s.pc := rfl
@[simp] theorem countEvent_mem (s : State) (e : BitVec 4) : (s.countEvent e).mem = s.mem := rfl
@[simp] theorem countEvent_gpr (s : State) (e : BitVec 4) : (s.countEvent e).gpr = s.gpr := rfl
@[simp] theorem countEvent_tlb (s : State) (e : BitVec 4) : (s.countEvent e).tlb = s.tlb := rfl
@[simp] theorem countEvent_pc (s : State) (e : BitVec 4) : (s.countEvent e).pc = s.pc := rfl
@[simp] theorem countKinds_mem (s : State) (w : Word) : (s.countKinds w).mem = s.mem := by simp [State.countKinds]
@[simp] theorem countKinds_gpr (s : State) (w : Word) : (s.countKinds w).gpr = s.gpr := by simp [State.countKinds]
@[simp] theorem countKinds_tlb (s : State) (w : Word) : (s.countKinds w).tlb = s.tlb := by simp [State.countKinds]
@[simp] theorem countKinds_pc (s : State) (w : Word) : (s.countKinds w).pc = s.pc := by simp [State.countKinds]

/-! ## The ways a step ends -/

/-- A step ends in a reset, an NMI, a cache error, an interrupt, in waiting, or in the attempt to run an instruction. -/
theorem afterEvents_cases (h : s.afterEvents = .next t) :
    (∃ p, t = s.coldResetWith p) ∨ t = s.warmEntry ∨ t = s ∨ t = s.takeNmi ∨ (∃ b, t = s.cacheErrorEntry b) ∨
      t = takeException .interrupt s ∨ s.runInstr = .next t := by
  have next {a b : State} (h : (.next a : Result) = .next b) : b = a := by cases h; rfl
  unfold State.afterEvents State.proceed at h
  split at h
  · exact .inl ⟨_, next h⟩
  split at h
  · exact .inr (.inl (next h))
  split at h
  · exact .inr (.inr (.inl (next h)))
  split at h
  · exact .inr (.inr (.inr (.inl (next h))))
  split at h
  · exact .inr (.inr (.inr (.inr (.inl ⟨_, next h⟩))))
  split at h
  · split at h
    · exact .inr (.inr (.inr (.inr (.inr (.inl (next h))))))
    · exact .inr (.inr (.inl (next h)))
  split at h
  · unfold State.interruptUnless at h
    split at h
    · split at h
      · exact .inr (.inr (.inr (.inr (.inr (.inr (by rw [‹s.runInstr = _›, next h]))))))
      · exact .inr (.inr (.inr (.inr (.inr (.inl (next h))))))
    · exact .inr (.inr (.inr (.inr (.inr (.inl (next h))))))
  · exact .inr (.inr (.inr (.inr (.inr (.inr h)))))

/-- Decoding and executing a word ends in what a word of no instruction raises, or in the instruction. -/
theorem runAt_cases {pa : PAddr} (h : s.runAt pa = .next t) :
    (∃ r, s.reject r = .next t) ∨ ∃ i w, exec i (s.countKinds w) = .next t := by
  unfold State.runAt at h
  split at h
  · exact .inr ⟨_, _, h⟩
  · exact .inl ⟨_, h⟩

/-- The attempt to run an instruction ends in an exception of the fetch, or in decoding and executing its word. -/
theorem runInstr_cases (h : s.runInstr = .next t) :
    (∃ e, t = takeException e (s.countEvent 1)) ∨ ∃ pa, (s.countEvent 1).runAt pa = .next t := by
  have next {a b : State} (h : (.next a : Result) = .next b) : b = a := by cases h; rfl
  unfold State.runInstr at h
  generalize s.countEvent 1 = u at h ⊢
  simp only at h
  split at h
  · exact .inl ⟨_, next h⟩
  split at h
  · exact .inl ⟨_, next h⟩
  · exact .inr ⟨_, h⟩

/-! ## Placing an instruction -/

/-- Placing a word keeps memory canonical. -/
theorem wf_placeWord (h : s.Canonical) (pa : PAddr) (w : Word) : (s.placeWord pa w).Canonical :=
  Memory.wf_writeBytes h _ _

/-- Placing an instruction keeps memory canonical. -/
theorem wf_withFetchWord (h : s.Canonical) (nbits w : Nat) : (s.withFetchWord nbits w).Canonical := by
  unfold State.withFetchWord State.placeAtPc
  split
  · exact wf_placeWord h _ _
  · exact h

end Sys2Proof.Machine
end

