-- ==== Sys2Proof/Laws/Fpu.lean ====
section
/-! SUPPORT. What the shared operations of the FPU can do: writes of its registers, FPFinish, and the ends of its
instructions. -/

namespace Sys2Proof.Machine

variable {s t : State}

/-! ## Writes of floating-point registers -/

/-- The effect of a write of one floating-point register, with or without a draw. -/
theorem fpEffect_setFp (s : State) (fd : FprNum) (v : FpReg) (n : Nat) :
    FpEffect s ((s.setFp fd v).drew n).advance fd s.fcr31 where
  fcr31 := by simp
  fpRegs := fun j h => by simp [State.fp_setFp_ne _ _ _ _ h]
  regs := fun r => by simp
  hiLo := by constructor <;> simp
  system := by apply SameSystem.of <;> simp
  memory := fun a => by simp

/-- The same after a load. -/
theorem fpEffect_load (s : State) (fd : FprNum) (v : FpReg) (n : Nat) :
    FpEffect s ((s.setFp fd v).drew n).noteAccess.advance fd s.fcr31 where
  fcr31 := by simp
  fpRegs := fun j h => by simp [State.fp_setFp_ne _ _ _ _ h]
  regs := fun r => by simp
  hiLo := by constructor <;> simp
  system := by apply SameSystem.of <;> simp
  memory := fun a => by simp

/-- `FpFormat.store` writes one register and draws at most one free value. -/
theorem FpFormat.store_eq (f : FpFormat) (fd : FprNum) (v : Dword) (s : State) :
    ∃ p n, f.store fd v s = (s.setFp fd p).drew n ∧
      match f with
      | .single => p.lo = low v
      | .double => p.toDword = v := by
  cases f
  · exact ⟨_, 1, rfl, rfl⟩
  · refine ⟨FpReg.ofDword v, 0, rfl, ?_⟩
    show (high v ++ low v : BitVec 64) = v
    apply BitVec.eq_of_getLsbD_eq
    intro i hi
    rw [BitVec.getLsbD_append]
    by_cases c : i < 32
    · simp [c, low]
    · have e : 32 + (i - 32) = i := by omega
      simp [c, high, show i - 32 < 32 by omega, e]

/-! ## FPFinish -/

theorem Fcr31.traps_setCause (f : Fcr31) (c : BitVec 6) : (f.setCause c).traps = fpTraps f c := rfl

theorem Fcr31.accumulate_setCause (f : Fcr31) (c : BitVec 6) : (f.setCause c).accumulate = fcrAfter f c := rfl

/-- FPFinish with a cause that does not trap. -/
theorem fpFinish_of {c : BitVec 6} (h : fpTraps s.fcr31 c = false) (store : State → State) :
    fpFinish s c store = .next (store (s.setFcr31 (fcrAfter s.fcr31 c))).advance := by
  have c' : (s.fcr31.setCause c).traps = _ := h
  simp only [fpFinish, c']; rfl

/-- FPFinish with a cause that traps: only the cause bits are written before the entry. -/
theorem fpFinish_trap {c : BitVec 6} (h : fpTraps s.fcr31 c = true) (store : State → State) :
    fpFinish s c store = .next (takeException .floatingPoint (s.setFcr31 { s.fcr31 with cause := c })) := by
  have c' : (s.fcr31.setCause c).traps = _ := h
  simp only [fpFinish, c']; rfl

/-- A computation whose result goes to a register in a floating-point format. -/
theorem finishes_of_finish {i : Instr} {f : FpFormat} {fd : FprNum} {r : FpResult} (h : exec i s = f.finish s fd r) :
    Finishes i s f fd r := by
  constructor
  · intro c
    refine ⟨_, h.trans (fpFinish_of c _), ?_⟩
    obtain ⟨p, n, e, hp⟩ := FpFormat.store_eq f fd r.value (s.setFcr31 (fcrAfter s.fcr31 r.cause))
    rw [e]
    refine ⟨advanced_advance (by simp), ⟨by simp, fun j hj => by simp [State.fp_setFp_ne _ _ _ _ hj], fun q => by simp,
      by constructor <;> simp, by apply SameSystem.of <;> simp, fun a => by simp⟩, ?_⟩
    unfold fpHolds
    cases f
    · simpa using hp
    · simpa using hp
  · intro c
    exact h.trans (fpFinish_trap c _)

/-- A conversion to W. -/
theorem finishes_of_word {i : Instr} {fd : FprNum} {r : FpResult}
    (h : exec i s = fpFinish s r.cause fun t => t.storeFprWord fd (low r.value)) : Finishes i s .single fd r :=
  finishes_of_finish h

/-- A conversion to L. -/
theorem finishes_of_long {i : Instr} {fd : FprNum} {r : FpResult}
    (h : exec i s = fpFinish s r.cause fun t => t.writeFgrDouble fd r.value) : Finishes i s .double fd r :=
  finishes_of_finish h

/-- The effect of a write of FCR31. -/
theorem fcr31Effect_setFcr31 (s : State) (f : Fcr31) : Fcr31Effect s (s.setFcr31 f).advance f where
  fcr31 := by simp
  fpRegs := fun j => by simp
  regs := fun r => by simp
  hiLo := by constructor <;> simp
  system := by apply SameSystem.of <;> simp
  memory := fun a => by simp

theorem setsFcr31_of {i : Instr} {f : Fcr31} (h : exec i s = .next (s.setFcr31 f).advance) : SetsFcr31 i s f :=
  ⟨_, h, advanced_advance (by simp), fcr31Effect_setFcr31 s f⟩

/-- The bits of the condition codes after a compare. -/
theorem Fcr31.getLsbD_setCondition (f : Fcr31) (cc : BitVec 3) (b : Bool) (j : Nat) (h : j < 8) :
    (f.setCondition cc b).cc.getLsbD j = if j = cc.toNat then b else f.cc.getLsbD j := by
  have one : ∀ k, (1#8 <<< cc.toNat).getLsbD k = (decide (k < 8) && decide (k = cc.toNat)) := fun k => by
    have e : decide (k = cc.toNat) = (!decide (k < cc.toNat) && decide (k - cc.toNat = 0)) := by
      rw [← decide_not, ← Bool.decide_and]; apply decide_eq_decide.2; omega
    rw [BitVec.getLsbD_shiftLeft, e, BitVec.getLsbD_one]
    simp [Bool.and_assoc]
  show (f.cc &&& ~~~(1#8 <<< cc.toNat) ||| (if b then 1#8 <<< cc.toNat else 0)).getLsbD j = _
  have hite : (if b then 1#8 <<< cc.toNat else 0).getLsbD j = (b && (1#8 <<< cc.toNat).getLsbD j) := by
    cases b <;> simp
  rw [BitVec.getLsbD_or, BitVec.getLsbD_and, BitVec.getLsbD_not, hite, one, decide_eq_true h]
  split
  · next c => rw [decide_eq_true c]; simp
  · next c => rw [decide_eq_false c]; simp

end Sys2Proof.Machine
end

