-- ==== Sys2Proof/Laws/PerInstr.lean ====
section
/-! SUPPORT. What is proved for every constructor of `Instr`: the word that the encoder writes is a word of the
instruction's row in the opcode table. -/

namespace Sys2Proof.Laws

/-! ## The packs, masked field by field -/

@[simp] theorem packI_and (op : BitVec 6) (a b : BitVec 5) (imm : BitVec 16) (m : Word) :
    packI op a b imm &&& m =
      packI (op &&& m.extractLsb' 26 6) (a &&& m.extractLsb' 21 5) (b &&& m.extractLsb' 16 5)
        (imm &&& m.extractLsb' 0 16) := by
  simp only [packI, ← BitVec.and_append]
  congr 1
  ext i hi
  simp
  grind

@[simp] theorem packJ_and (op : BitVec 6) (t : BitVec 26) (m : Word) :
    packJ op t &&& m = packJ (op &&& m.extractLsb' 26 6) (t &&& m.extractLsb' 0 26) := by
  simp only [packJ, ← BitVec.and_append]
  congr 1
  ext i hi
  simp
  grind

@[simp] theorem packR_and (op : BitVec 6) (a b c d : BitVec 5) (fn : BitVec 6) (m : Word) :
    packR op a b c d fn &&& m =
      packR (op &&& m.extractLsb' 26 6) (a &&& m.extractLsb' 21 5) (b &&& m.extractLsb' 16 5)
        (c &&& m.extractLsb' 11 5) (d &&& m.extractLsb' 6 5) (fn &&& m.extractLsb' 0 6) := by
  simp only [packR, ← BitVec.and_append]
  congr 1
  ext i hi
  simp
  grind

@[simp] theorem packCode_and (op : BitVec 6) (code : BitVec 20) (fn : BitVec 6) (m : Word) :
    packCode op code fn &&& m =
      packCode (op &&& m.extractLsb' 26 6) (code &&& m.extractLsb' 6 20) (fn &&& m.extractLsb' 0 6) := by
  simp only [packCode, ← BitVec.and_append]
  congr 1
  ext i hi
  simp
  grind

@[simp] theorem packTrap_and (op : BitVec 6) (a b : BitVec 5) (code : BitVec 10) (fn : BitVec 6) (m : Word) :
    packTrap op a b code fn &&& m =
      packTrap (op &&& m.extractLsb' 26 6) (a &&& m.extractLsb' 21 5) (b &&& m.extractLsb' 16 5)
        (code &&& m.extractLsb' 6 10) (fn &&& m.extractLsb' 0 6) := by
  simp only [packTrap, ← BitVec.and_append]
  congr 1
  ext i hi
  simp
  grind

@[simp] theorem packCc_and (cc : BitVec 3) (nd tf : BitVec 1) (m : BitVec 5) :
    packCc cc nd tf &&& m = packCc (cc &&& m.extractLsb' 2 3) (nd &&& m.extractLsb' 1 1) (tf &&& m.extractLsb' 0 1) := by
  simp only [packCc, ← BitVec.and_append]
  congr 1
  ext i hi
  simp
  grind

@[simp] theorem packCmpCc_and (cc : BitVec 3) (m : BitVec 5) : packCmpCc cc &&& m = packCmpCc (cc &&& m.extractLsb' 2 3) := by
  simp only [packCmpCc]
  ext i hi
  simp
  grind

@[simp] theorem packPerf_and (reg : BitVec 5) (c : BitVec 1) (m : BitVec 6) :
    packPerf reg c &&& m = packPerf (reg &&& m.extractLsb' 1 5) (c &&& m.extractLsb' 0 1) := by
  simp only [packPerf, ← BitVec.and_append]
  congr 1
  ext i hi
  simp
  grind

@[simp] theorem packWait_and (code : BitVec 19) (m : BitVec 20) :
    packWait code &&& m = packWait (code &&& m.extractLsb' 0 19) &&& (m ||| 0x7FFFF#20) := by
  simp only [packWait]
  ext i hi
  simp
  grind

namespace Encodes

/-- The mask and the match of the instruction's row in the opcode table. -/
def row : Instr → Word × Word
  | .addi _ _ _ => (0xFC000000, 0x20000000)
  | .addiu _ _ _ => (0xFC000000, 0x24000000)
  | .slti _ _ _ => (0xFC000000, 0x28000000)
  | .sltiu _ _ _ => (0xFC000000, 0x2C000000)
  | .andi _ _ _ => (0xFC000000, 0x30000000)
  | .ori _ _ _ => (0xFC000000, 0x34000000)
  | .xori _ _ _ => (0xFC000000, 0x38000000)
  | .daddi _ _ _ => (0xFC000000, 0x60000000)
  | .daddiu _ _ _ => (0xFC000000, 0x64000000)
  | .lui _ _ => (0xFC000000, 0x3C000000)
  | .lb _ _ _ => (0xFC000000, 0x80000000)
  | .lh _ _ _ => (0xFC000000, 0x84000000)
  | .lwl _ _ _ => (0xFC000000, 0x88000000)
  | .lw _ _ _ => (0xFC000000, 0x8C000000)
  | .lbu _ _ _ => (0xFC000000, 0x90000000)
  | .lhu _ _ _ => (0xFC000000, 0x94000000)
  | .lwr _ _ _ => (0xFC000000, 0x98000000)
  | .lwu _ _ _ => (0xFC000000, 0x9C000000)
  | .sb _ _ _ => (0xFC000000, 0xA0000000)
  | .sh _ _ _ => (0xFC000000, 0xA4000000)
  | .swl _ _ _ => (0xFC000000, 0xA8000000)
  | .sw _ _ _ => (0xFC000000, 0xAC000000)
  | .sdl _ _ _ => (0xFC000000, 0xB0000000)
  | .sdr _ _ _ => (0xFC000000, 0xB4000000)
  | .swr _ _ _ => (0xFC000000, 0xB8000000)
  | .ldl _ _ _ => (0xFC000000, 0x68000000)
  | .ldr _ _ _ => (0xFC000000, 0x6C000000)
  | .ll _ _ _ => (0xFC000000, 0xC0000000)
  | .lld _ _ _ => (0xFC000000, 0xD0000000)
  | .ld _ _ _ => (0xFC000000, 0xDC000000)
  | .sc _ _ _ => (0xFC000000, 0xE0000000)
  | .scd _ _ _ => (0xFC000000, 0xF0000000)
  | .sd _ _ _ => (0xFC000000, 0xFC000000)
  | .cache _ _ _ => (0xFC000000, 0xBC000000)
  | .pref _ _ _ => (0xFC000000, 0xCC000000)
  | .lwc1 _ _ _ => (0xFC000000, 0xC4000000)
  | .ldc1 _ _ _ => (0xFC000000, 0xD4000000)
  | .swc1 _ _ _ => (0xFC000000, 0xE4000000)
  | .sdc1 _ _ _ => (0xFC000000, 0xF4000000)
  | .beq _ _ _ => (0xFC000000, 0x10000000)
  | .bne _ _ _ => (0xFC000000, 0x14000000)
  | .beql _ _ _ => (0xFC000000, 0x50000000)
  | .bnel _ _ _ => (0xFC000000, 0x54000000)
  | .blez _ _ => (0xFC000000, 0x18000000)
  | .bgtz _ _ => (0xFC000000, 0x1C000000)
  | .blezl _ _ => (0xFC000000, 0x58000000)
  | .bgtzl _ _ => (0xFC000000, 0x5C000000)
  | .bltz _ _ => (0xFC1F0000, 0x04000000)
  | .bgez _ _ => (0xFC1F0000, 0x04010000)
  | .bltzl _ _ => (0xFC1F0000, 0x04020000)
  | .bgezl _ _ => (0xFC1F0000, 0x04030000)
  | .bltzal _ _ => (0xFC1F0000, 0x04100000)
  | .bgezal _ _ => (0xFC1F0000, 0x04110000)
  | .bltzall _ _ => (0xFC1F0000, 0x04120000)
  | .bgezall _ _ => (0xFC1F0000, 0x04130000)
  | .tgei _ _ => (0xFC1F0000, 0x04080000)
  | .tgeiu _ _ => (0xFC1F0000, 0x04090000)
  | .tlti _ _ => (0xFC1F0000, 0x040A0000)
  | .tltiu _ _ => (0xFC1F0000, 0x040B0000)
  | .teqi _ _ => (0xFC1F0000, 0x040C0000)
  | .tnei _ _ => (0xFC1F0000, 0x040E0000)
  | .j _ => (0xFC000000, 0x08000000)
  | .jal _ => (0xFC000000, 0x0C000000)
  | .add _ _ _ => (0xFC00003F, 0x00000020)
  | .addu _ _ _ => (0xFC00003F, 0x00000021)
  | .sub _ _ _ => (0xFC00003F, 0x00000022)
  | .subu _ _ _ => (0xFC00003F, 0x00000023)
  | .and _ _ _ => (0xFC00003F, 0x00000024)
  | .or _ _ _ => (0xFC00003F, 0x00000025)
  | .xor _ _ _ => (0xFC00003F, 0x00000026)
  | .nor _ _ _ => (0xFC00003F, 0x00000027)
  | .slt _ _ _ => (0xFC00003F, 0x0000002A)
  | .sltu _ _ _ => (0xFC00003F, 0x0000002B)
  | .dadd _ _ _ => (0xFC00003F, 0x0000002C)
  | .daddu _ _ _ => (0xFC00003F, 0x0000002D)
  | .dsub _ _ _ => (0xFC00003F, 0x0000002E)
  | .dsubu _ _ _ => (0xFC00003F, 0x0000002F)
  | .movz _ _ _ => (0xFC00003F, 0x0000000A)
  | .movn _ _ _ => (0xFC00003F, 0x0000000B)
  | .sllv _ _ _ => (0xFC00003F, 0x00000004)
  | .srav _ _ _ => (0xFC00003F, 0x00000007)
  | .dsllv _ _ _ => (0xFC00003F, 0x00000014)
  | .dsrav _ _ _ => (0xFC00003F, 0x00000017)
  | .srlv _ _ _ => (0xFC00007F, 0x00000006)
  | .rorv _ _ _ => (0xFC00007F, 0x00000046)
  | .dsrlv _ _ _ => (0xFC00007F, 0x00000016)
  | .drorv _ _ _ => (0xFC00007F, 0x00000056)
  | .ssnop => (0xFFFFFFFF, 0x00000040)
  | .sll _ _ _ => (0xFC00003F, 0x00000000)
  | .sra _ _ _ => (0xFC00003F, 0x00000003)
  | .dsll _ _ _ => (0xFC00003F, 0x00000038)
  | .dsra _ _ _ => (0xFC00003F, 0x0000003B)
  | .dsll32 _ _ _ => (0xFC00003F, 0x0000003C)
  | .dsra32 _ _ _ => (0xFC00003F, 0x0000003F)
  | .srl _ _ _ => (0xFC20003F, 0x00000002)
  | .ror _ _ _ => (0xFC20003F, 0x00200002)
  | .dsrl _ _ _ => (0xFC20003F, 0x0000003A)
  | .dror _ _ _ => (0xFC20003F, 0x0020003A)
  | .dsrl32 _ _ _ => (0xFC20003F, 0x0000003E)
  | .dror32 _ _ _ => (0xFC20003F, 0x0020003E)
  | .movf _ _ _ => (0xFC01003F, 0x00000001)
  | .movt _ _ _ => (0xFC01003F, 0x00010001)
  | .jr _ => (0xFC00003F, 0x00000008)
  | .jalr _ _ => (0xFC00003F, 0x00000009)
  | .syscall _ => (0xFC00003F, 0x0000000C)
  | .breakpoint _ => (0xFC00003F, 0x0000000D)
  | .sync _ => (0xFC00003F, 0x0000000F)
  | .mfhi _ => (0xFC00003F, 0x00000010)
  | .mthi _ => (0xFC00003F, 0x00000011)
  | .mflo _ => (0xFC00003F, 0x00000012)
  | .mtlo _ => (0xFC00003F, 0x00000013)
  | .mult _ _ => (0xFC0007FF, 0x00000018)
  | .multu _ _ => (0xFC0007FF, 0x00000019)
  | .div _ _ => (0xFC00003F, 0x0000001A)
  | .divu _ _ => (0xFC00003F, 0x0000001B)
  | .dmult _ _ => (0xFC00003F, 0x0000001C)
  | .dmultu _ _ => (0xFC00003F, 0x0000001D)
  | .ddiv _ _ => (0xFC00003F, 0x0000001E)
  | .ddivu _ _ => (0xFC00003F, 0x0000001F)
  | .mul _ _ _ => (0xFC0007FF, 0x00000058)
  | .mulu _ _ _ => (0xFC0007FF, 0x00000059)
  | .muls _ _ _ => (0xFC0007FF, 0x000000D8)
  | .mulsu _ _ _ => (0xFC0007FF, 0x000000D9)
  | .macc _ _ _ => (0xFC0007FF, 0x00000158)
  | .maccu _ _ _ => (0xFC0007FF, 0x00000159)
  | .msac _ _ _ => (0xFC0007FF, 0x000001D8)
  | .msacu _ _ _ => (0xFC0007FF, 0x000001D9)
  | .mulhi _ _ _ => (0xFC0007FF, 0x00000258)
  | .mulhiu _ _ _ => (0xFC0007FF, 0x00000259)
  | .mulshi _ _ _ => (0xFC0007FF, 0x000002D8)
  | .mulshiu _ _ _ => (0xFC0007FF, 0x000002D9)
  | .macchi _ _ _ => (0xFC0007FF, 0x00000358)
  | .macchiu _ _ _ => (0xFC0007FF, 0x00000359)
  | .msachi _ _ _ => (0xFC0007FF, 0x000003D8)
  | .msachiu _ _ _ => (0xFC0007FF, 0x000003D9)
  | .tge _ _ _ => (0xFC00003F, 0x00000030)
  | .tgeu _ _ _ => (0xFC00003F, 0x00000031)
  | .tlt _ _ _ => (0xFC00003F, 0x00000032)
  | .tltu _ _ _ => (0xFC00003F, 0x00000033)
  | .teq _ _ _ => (0xFC00003F, 0x00000034)
  | .tne _ _ _ => (0xFC00003F, 0x00000036)
  | .madd _ _ => (0xFC00003F, 0x70000000)
  | .maddu _ _ => (0xFC00003F, 0x70000001)
  | .msub _ _ => (0xFC00003F, 0x70000004)
  | .msubu _ _ => (0xFC00003F, 0x70000005)
  | .mul64 _ _ _ => (0xFC00003F, 0x70000002)
  | .clz _ _ => (0xFC00003F, 0x70000020)
  | .clo _ _ => (0xFC00003F, 0x70000021)
  | .dclz _ _ => (0xFC00003F, 0x70000024)
  | .dclo _ _ => (0xFC00003F, 0x70000025)
  | .mfpc _ _ => (0xFFE0F801, 0x4000C801)
  | .mfps _ _ => (0xFFE0F801, 0x4000C800)
  | .mtpc _ _ => (0xFFE0F801, 0x4080C801)
  | .mtps _ _ => (0xFFE0F801, 0x4080C800)
  | .mfc0 _ _ => (0xFFE00000, 0x40000000)
  | .dmfc0 _ _ => (0xFFE00000, 0x40200000)
  | .mtc0 _ _ => (0xFFE00000, 0x40800000)
  | .dmtc0 _ _ => (0xFFE00000, 0x40A00000)
  | .bc0f _ => (0xFFFF0000, 0x41000000)
  | .bc0t _ => (0xFFFF0000, 0x41010000)
  | .bc0fl _ => (0xFFFF0000, 0x41020000)
  | .bc0tl _ => (0xFFFF0000, 0x41030000)
  | .tlbr => (0xFE00003F, 0x42000001)
  | .tlbwi => (0xFE00003F, 0x42000002)
  | .tlbwr => (0xFE00003F, 0x42000006)
  | .tlbp => (0xFE00003F, 0x42000008)
  | .eret => (0xFE00003F, 0x42000018)
  | .wait _ => (0xFE00003F, 0x42000020)
  | .mfc1 _ _ => (0xFFE00000, 0x44000000)
  | .dmfc1 _ _ => (0xFFE00000, 0x44200000)
  | .cfc1 _ _ => (0xFFE00000, 0x44400000)
  | .mtc1 _ _ => (0xFFE00000, 0x44800000)
  | .dmtc1 _ _ => (0xFFE00000, 0x44A00000)
  | .ctc1 _ _ => (0xFFE00000, 0x44C00000)
  | .bc1f _ _ => (0xFFE30000, 0x45000000)
  | .bc1t _ _ => (0xFFE30000, 0x45010000)
  | .bc1fl _ _ => (0xFFE30000, 0x45020000)
  | .bc1tl _ _ => (0xFFE30000, 0x45030000)
  | .fpAddS _ _ _ => (0xFFE0003F, 0x46000000)
  | .fpAddD _ _ _ => (0xFFE0003F, 0x46200000)
  | .fpSubS _ _ _ => (0xFFE0003F, 0x46000001)
  | .fpSubD _ _ _ => (0xFFE0003F, 0x46200001)
  | .fpMulS _ _ _ => (0xFFE0003F, 0x46000002)
  | .fpMulD _ _ _ => (0xFFE0003F, 0x46200002)
  | .fpDivS _ _ _ => (0xFFE0003F, 0x46000003)
  | .fpDivD _ _ _ => (0xFFE0003F, 0x46200003)
  | .fpSqrtS _ _ => (0xFFE0003F, 0x46000004)
  | .fpSqrtD _ _ => (0xFFE0003F, 0x46200004)
  | .fpAbsS _ _ => (0xFFE0003F, 0x46000005)
  | .fpAbsD _ _ => (0xFFE0003F, 0x46200005)
  | .fpMovS _ _ => (0xFFE0003F, 0x46000006)
  | .fpMovD _ _ => (0xFFE0003F, 0x46200006)
  | .fpNegS _ _ => (0xFFE0003F, 0x46000007)
  | .fpNegD _ _ => (0xFFE0003F, 0x46200007)
  | .fpRoundLS _ _ => (0xFFE0003F, 0x46000008)
  | .fpRoundLD _ _ => (0xFFE0003F, 0x46200008)
  | .fpTruncLS _ _ => (0xFFE0003F, 0x46000009)
  | .fpTruncLD _ _ => (0xFFE0003F, 0x46200009)
  | .fpCeilLS _ _ => (0xFFE0003F, 0x4600000A)
  | .fpCeilLD _ _ => (0xFFE0003F, 0x4620000A)
  | .fpFloorLS _ _ => (0xFFE0003F, 0x4600000B)
  | .fpFloorLD _ _ => (0xFFE0003F, 0x4620000B)
  | .fpRoundWS _ _ => (0xFFE0003F, 0x4600000C)
  | .fpRoundWD _ _ => (0xFFE0003F, 0x4620000C)
  | .fpTruncWS _ _ => (0xFFE0003F, 0x4600000D)
  | .fpTruncWD _ _ => (0xFFE0003F, 0x4620000D)
  | .fpCeilWS _ _ => (0xFFE0003F, 0x4600000E)
  | .fpCeilWD _ _ => (0xFFE0003F, 0x4620000E)
  | .fpFloorWS _ _ => (0xFFE0003F, 0x4600000F)
  | .fpFloorWD _ _ => (0xFFE0003F, 0x4620000F)
  | .fpRecipS _ _ => (0xFFE0003F, 0x46000015)
  | .fpRecipD _ _ => (0xFFE0003F, 0x46200015)
  | .fpRsqrtS _ _ => (0xFFE0003F, 0x46000016)
  | .fpRsqrtD _ _ => (0xFFE0003F, 0x46200016)
  | .fpCvtWS _ _ => (0xFFE0003F, 0x46000024)
  | .fpCvtWD _ _ => (0xFFE0003F, 0x46200024)
  | .fpCvtLS _ _ => (0xFFE0003F, 0x46000025)
  | .fpCvtLD _ _ => (0xFFE0003F, 0x46200025)
  | .fpCvtSD _ _ => (0xFFE0003F, 0x46200020)
  | .fpCvtSW _ _ => (0xFFE0003F, 0x46800020)
  | .fpCvtSL _ _ => (0xFFE0003F, 0x46A00020)
  | .fpCvtDS _ _ => (0xFFE0003F, 0x46000021)
  | .fpCvtDW _ _ => (0xFFE0003F, 0x46800021)
  | .fpCvtDL _ _ => (0xFFE0003F, 0x46A00021)
  | .fpMovfS _ _ _ => (0xFFE1003F, 0x46000011)
  | .fpMovfD _ _ _ => (0xFFE1003F, 0x46200011)
  | .fpMovtS _ _ _ => (0xFFE1003F, 0x46010011)
  | .fpMovtD _ _ _ => (0xFFE1003F, 0x46210011)
  | .fpMovzS _ _ _ => (0xFFE0003F, 0x46000012)
  | .fpMovzD _ _ _ => (0xFFE0003F, 0x46200012)
  | .fpMovnS _ _ _ => (0xFFE0003F, 0x46000013)
  | .fpMovnD _ _ _ => (0xFFE0003F, 0x46200013)
  | .fpCFS _ _ _ => (0xFFE000FF, 0x46000030)
  | .fpCFD _ _ _ => (0xFFE000FF, 0x46200030)
  | .fpCUnS _ _ _ => (0xFFE000FF, 0x46000031)
  | .fpCUnD _ _ _ => (0xFFE000FF, 0x46200031)
  | .fpCEqS _ _ _ => (0xFFE000FF, 0x46000032)
  | .fpCEqD _ _ _ => (0xFFE000FF, 0x46200032)
  | .fpCUeqS _ _ _ => (0xFFE000FF, 0x46000033)
  | .fpCUeqD _ _ _ => (0xFFE000FF, 0x46200033)
  | .fpCOltS _ _ _ => (0xFFE000FF, 0x46000034)
  | .fpCOltD _ _ _ => (0xFFE000FF, 0x46200034)
  | .fpCUltS _ _ _ => (0xFFE000FF, 0x46000035)
  | .fpCUltD _ _ _ => (0xFFE000FF, 0x46200035)
  | .fpCOleS _ _ _ => (0xFFE000FF, 0x46000036)
  | .fpCOleD _ _ _ => (0xFFE000FF, 0x46200036)
  | .fpCUleS _ _ _ => (0xFFE000FF, 0x46000037)
  | .fpCUleD _ _ _ => (0xFFE000FF, 0x46200037)
  | .fpCSfS _ _ _ => (0xFFE000FF, 0x46000038)
  | .fpCSfD _ _ _ => (0xFFE000FF, 0x46200038)
  | .fpCNgleS _ _ _ => (0xFFE000FF, 0x46000039)
  | .fpCNgleD _ _ _ => (0xFFE000FF, 0x46200039)
  | .fpCSeqS _ _ _ => (0xFFE000FF, 0x4600003A)
  | .fpCSeqD _ _ _ => (0xFFE000FF, 0x4620003A)
  | .fpCNglS _ _ _ => (0xFFE000FF, 0x4600003B)
  | .fpCNglD _ _ _ => (0xFFE000FF, 0x4620003B)
  | .fpCLtS _ _ _ => (0xFFE000FF, 0x4600003C)
  | .fpCLtD _ _ _ => (0xFFE000FF, 0x4620003C)
  | .fpCNgeS _ _ _ => (0xFFE000FF, 0x4600003D)
  | .fpCNgeD _ _ _ => (0xFFE000FF, 0x4620003D)
  | .fpCLeS _ _ _ => (0xFFE000FF, 0x4600003E)
  | .fpCLeD _ _ _ => (0xFFE000FF, 0x4620003E)
  | .fpCNgtS _ _ _ => (0xFFE000FF, 0x4600003F)
  | .fpCNgtD _ _ _ => (0xFFE000FF, 0x4620003F)
  | .lwxc1 _ _ _ => (0xFC00003F, 0x4C000000)
  | .ldxc1 _ _ _ => (0xFC00003F, 0x4C000001)
  | .luxc1 _ _ _ => (0xFC00003F, 0x4C000005)
  | .swxc1 _ _ _ => (0xFC00003F, 0x4C000008)
  | .sdxc1 _ _ _ => (0xFC00003F, 0x4C000009)
  | .suxc1 _ _ _ => (0xFC00003F, 0x4C00000D)
  | .prefx _ _ _ => (0xFC00003F, 0x4C00000F)
  | .fpMaddS _ _ _ _ => (0xFC00003F, 0x4C000020)
  | .fpMaddD _ _ _ _ => (0xFC00003F, 0x4C000021)
  | .fpMsubS _ _ _ _ => (0xFC00003F, 0x4C000028)
  | .fpMsubD _ _ _ _ => (0xFC00003F, 0x4C000029)
  | .fpNmaddS _ _ _ _ => (0xFC00003F, 0x4C000030)
  | .fpNmaddD _ _ _ _ => (0xFC00003F, 0x4C000031)
  | .fpNmsubS _ _ _ _ => (0xFC00003F, 0x4C000038)
  | .fpNmsubD _ _ _ _ => (0xFC00003F, 0x4C000039)

/-- The encoder writes a word of the instruction's row. -/
def Statement (i : Instr) : Prop := encode i &&& (row i).1 = (row i).2


theorem addi (rs : RegNum) (rt : RegNum) (imm : BitVec 16) :
    Statement (.addi rs rt imm) := by
  change packI 0b001000#6 rs rt imm &&& 0xFC000000#32 = 0x20000000#32
  simp; rfl
theorem addiu (rs : RegNum) (rt : RegNum) (imm : BitVec 16) :
    Statement (.addiu rs rt imm) := by
  change packI 0b001001#6 rs rt imm &&& 0xFC000000#32 = 0x24000000#32
  simp; rfl
theorem slti (rs : RegNum) (rt : RegNum) (imm : BitVec 16) :
    Statement (.slti rs rt imm) := by
  change packI 0b001010#6 rs rt imm &&& 0xFC000000#32 = 0x28000000#32
  simp; rfl
theorem sltiu (rs : RegNum) (rt : RegNum) (imm : BitVec 16) :
    Statement (.sltiu rs rt imm) := by
  change packI 0b001011#6 rs rt imm &&& 0xFC000000#32 = 0x2C000000#32
  simp; rfl
theorem andi (rs : RegNum) (rt : RegNum) (imm : BitVec 16) :
    Statement (.andi rs rt imm) := by
  change packI 0b001100#6 rs rt imm &&& 0xFC000000#32 = 0x30000000#32
  simp; rfl
theorem ori (rs : RegNum) (rt : RegNum) (imm : BitVec 16) :
    Statement (.ori rs rt imm) := by
  change packI 0b001101#6 rs rt imm &&& 0xFC000000#32 = 0x34000000#32
  simp; rfl
theorem xori (rs : RegNum) (rt : RegNum) (imm : BitVec 16) :
    Statement (.xori rs rt imm) := by
  change packI 0b001110#6 rs rt imm &&& 0xFC000000#32 = 0x38000000#32
  simp; rfl
theorem daddi (rs : RegNum) (rt : RegNum) (imm : BitVec 16) :
    Statement (.daddi rs rt imm) := by
  change packI 0b011000#6 rs rt imm &&& 0xFC000000#32 = 0x60000000#32
  simp; rfl
theorem daddiu (rs : RegNum) (rt : RegNum) (imm : BitVec 16) :
    Statement (.daddiu rs rt imm) := by
  change packI 0b011001#6 rs rt imm &&& 0xFC000000#32 = 0x64000000#32
  simp; rfl
theorem lui (rt : RegNum) (imm : BitVec 16) :
    Statement (.lui rt imm) := by
  change packI 0b001111#6 0b00000#5 rt imm &&& 0xFC000000#32 = 0x3C000000#32
  simp; rfl
theorem lb (base : RegNum) (rt : RegNum) (offset : BitVec 16) :
    Statement (.lb base rt offset) := by
  change packI 0b100000#6 base rt offset &&& 0xFC000000#32 = 0x80000000#32
  simp; rfl
theorem lh (base : RegNum) (rt : RegNum) (offset : BitVec 16) :
    Statement (.lh base rt offset) := by
  change packI 0b100001#6 base rt offset &&& 0xFC000000#32 = 0x84000000#32
  simp; rfl
theorem lwl (base : RegNum) (rt : RegNum) (offset : BitVec 16) :
    Statement (.lwl base rt offset) := by
  change packI 0b100010#6 base rt offset &&& 0xFC000000#32 = 0x88000000#32
  simp; rfl
theorem lw (base : RegNum) (rt : RegNum) (offset : BitVec 16) :
    Statement (.lw base rt offset) := by
  change packI 0b100011#6 base rt offset &&& 0xFC000000#32 = 0x8C000000#32
  simp; rfl
theorem lbu (base : RegNum) (rt : RegNum) (offset : BitVec 16) :
    Statement (.lbu base rt offset) := by
  change packI 0b100100#6 base rt offset &&& 0xFC000000#32 = 0x90000000#32
  simp; rfl
theorem lhu (base : RegNum) (rt : RegNum) (offset : BitVec 16) :
    Statement (.lhu base rt offset) := by
  change packI 0b100101#6 base rt offset &&& 0xFC000000#32 = 0x94000000#32
  simp; rfl
theorem lwr (base : RegNum) (rt : RegNum) (offset : BitVec 16) :
    Statement (.lwr base rt offset) := by
  change packI 0b100110#6 base rt offset &&& 0xFC000000#32 = 0x98000000#32
  simp; rfl
theorem lwu (base : RegNum) (rt : RegNum) (offset : BitVec 16) :
    Statement (.lwu base rt offset) := by
  change packI 0b100111#6 base rt offset &&& 0xFC000000#32 = 0x9C000000#32
  simp; rfl
theorem sb (base : RegNum) (rt : RegNum) (offset : BitVec 16) :
    Statement (.sb base rt offset) := by
  change packI 0b101000#6 base rt offset &&& 0xFC000000#32 = 0xA0000000#32
  simp; rfl
theorem sh (base : RegNum) (rt : RegNum) (offset : BitVec 16) :
    Statement (.sh base rt offset) := by
  change packI 0b101001#6 base rt offset &&& 0xFC000000#32 = 0xA4000000#32
  simp; rfl
theorem swl (base : RegNum) (rt : RegNum) (offset : BitVec 16) :
    Statement (.swl base rt offset) := by
  change packI 0b101010#6 base rt offset &&& 0xFC000000#32 = 0xA8000000#32
  simp; rfl
theorem sw (base : RegNum) (rt : RegNum) (offset : BitVec 16) :
    Statement (.sw base rt offset) := by
  change packI 0b101011#6 base rt offset &&& 0xFC000000#32 = 0xAC000000#32
  simp; rfl
theorem sdl (base : RegNum) (rt : RegNum) (offset : BitVec 16) :
    Statement (.sdl base rt offset) := by
  change packI 0b101100#6 base rt offset &&& 0xFC000000#32 = 0xB0000000#32
  simp; rfl
theorem sdr (base : RegNum) (rt : RegNum) (offset : BitVec 16) :
    Statement (.sdr base rt offset) := by
  change packI 0b101101#6 base rt offset &&& 0xFC000000#32 = 0xB4000000#32
  simp; rfl
theorem swr (base : RegNum) (rt : RegNum) (offset : BitVec 16) :
    Statement (.swr base rt offset) := by
  change packI 0b101110#6 base rt offset &&& 0xFC000000#32 = 0xB8000000#32
  simp; rfl
theorem ldl (base : RegNum) (rt : RegNum) (offset : BitVec 16) :
    Statement (.ldl base rt offset) := by
  change packI 0b011010#6 base rt offset &&& 0xFC000000#32 = 0x68000000#32
  simp; rfl
theorem ldr (base : RegNum) (rt : RegNum) (offset : BitVec 16) :
    Statement (.ldr base rt offset) := by
  change packI 0b011011#6 base rt offset &&& 0xFC000000#32 = 0x6C000000#32
  simp; rfl
theorem ll (base : RegNum) (rt : RegNum) (offset : BitVec 16) :
    Statement (.ll base rt offset) := by
  change packI 0b110000#6 base rt offset &&& 0xFC000000#32 = 0xC0000000#32
  simp; rfl
theorem lld (base : RegNum) (rt : RegNum) (offset : BitVec 16) :
    Statement (.lld base rt offset) := by
  change packI 0b110100#6 base rt offset &&& 0xFC000000#32 = 0xD0000000#32
  simp; rfl
theorem ld (base : RegNum) (rt : RegNum) (offset : BitVec 16) :
    Statement (.ld base rt offset) := by
  change packI 0b110111#6 base rt offset &&& 0xFC000000#32 = 0xDC000000#32
  simp; rfl
theorem sc (base : RegNum) (rt : RegNum) (offset : BitVec 16) :
    Statement (.sc base rt offset) := by
  change packI 0b111000#6 base rt offset &&& 0xFC000000#32 = 0xE0000000#32
  simp; rfl
theorem scd (base : RegNum) (rt : RegNum) (offset : BitVec 16) :
    Statement (.scd base rt offset) := by
  change packI 0b111100#6 base rt offset &&& 0xFC000000#32 = 0xF0000000#32
  simp; rfl
theorem sd (base : RegNum) (rt : RegNum) (offset : BitVec 16) :
    Statement (.sd base rt offset) := by
  change packI 0b111111#6 base rt offset &&& 0xFC000000#32 = 0xFC000000#32
  simp; rfl
theorem cache (base : RegNum) (op : BitVec 5) (offset : BitVec 16) :
    Statement (.cache base op offset) := by
  change packI 0b101111#6 base op offset &&& 0xFC000000#32 = 0xBC000000#32
  simp; rfl
theorem pref (base : RegNum) (hint : BitVec 5) (offset : BitVec 16) :
    Statement (.pref base hint offset) := by
  change packI 0b110011#6 base hint offset &&& 0xFC000000#32 = 0xCC000000#32
  simp; rfl
theorem lwc1 (base : RegNum) (ft : FprNum) (offset : BitVec 16) :
    Statement (.lwc1 base ft offset) := by
  change packI 0b110001#6 base ft offset &&& 0xFC000000#32 = 0xC4000000#32
  simp; rfl
theorem ldc1 (base : RegNum) (ft : FprNum) (offset : BitVec 16) :
    Statement (.ldc1 base ft offset) := by
  change packI 0b110101#6 base ft offset &&& 0xFC000000#32 = 0xD4000000#32
  simp; rfl
theorem swc1 (base : RegNum) (ft : FprNum) (offset : BitVec 16) :
    Statement (.swc1 base ft offset) := by
  change packI 0b111001#6 base ft offset &&& 0xFC000000#32 = 0xE4000000#32
  simp; rfl
theorem sdc1 (base : RegNum) (ft : FprNum) (offset : BitVec 16) :
    Statement (.sdc1 base ft offset) := by
  change packI 0b111101#6 base ft offset &&& 0xFC000000#32 = 0xF4000000#32
  simp; rfl
theorem beq (rs : RegNum) (rt : RegNum) (offset : BitVec 16) :
    Statement (.beq rs rt offset) := by
  change packI 0b000100#6 rs rt offset &&& 0xFC000000#32 = 0x10000000#32
  simp; rfl
theorem bne (rs : RegNum) (rt : RegNum) (offset : BitVec 16) :
    Statement (.bne rs rt offset) := by
  change packI 0b000101#6 rs rt offset &&& 0xFC000000#32 = 0x14000000#32
  simp; rfl
theorem beql (rs : RegNum) (rt : RegNum) (offset : BitVec 16) :
    Statement (.beql rs rt offset) := by
  change packI 0b010100#6 rs rt offset &&& 0xFC000000#32 = 0x50000000#32
  simp; rfl
theorem bnel (rs : RegNum) (rt : RegNum) (offset : BitVec 16) :
    Statement (.bnel rs rt offset) := by
  change packI 0b010101#6 rs rt offset &&& 0xFC000000#32 = 0x54000000#32
  simp; rfl
theorem blez (rs : RegNum) (offset : BitVec 16) :
    Statement (.blez rs offset) := by
  change packI 0b000110#6 rs 0b00000#5 offset &&& 0xFC000000#32 = 0x18000000#32
  simp; rfl
theorem bgtz (rs : RegNum) (offset : BitVec 16) :
    Statement (.bgtz rs offset) := by
  change packI 0b000111#6 rs 0b00000#5 offset &&& 0xFC000000#32 = 0x1C000000#32
  simp; rfl
theorem blezl (rs : RegNum) (offset : BitVec 16) :
    Statement (.blezl rs offset) := by
  change packI 0b010110#6 rs 0b00000#5 offset &&& 0xFC000000#32 = 0x58000000#32
  simp; rfl
theorem bgtzl (rs : RegNum) (offset : BitVec 16) :
    Statement (.bgtzl rs offset) := by
  change packI 0b010111#6 rs 0b00000#5 offset &&& 0xFC000000#32 = 0x5C000000#32
  simp; rfl
theorem bltz (rs : RegNum) (offset : BitVec 16) :
    Statement (.bltz rs offset) := by
  change packI 0b000001#6 rs 0b00000#5 offset &&& 0xFC1F0000#32 = 0x04000000#32
  simp; rfl
theorem bgez (rs : RegNum) (offset : BitVec 16) :
    Statement (.bgez rs offset) := by
  change packI 0b000001#6 rs 0b00001#5 offset &&& 0xFC1F0000#32 = 0x04010000#32
  simp; rfl
theorem bltzl (rs : RegNum) (offset : BitVec 16) :
    Statement (.bltzl rs offset) := by
  change packI 0b000001#6 rs 0b00010#5 offset &&& 0xFC1F0000#32 = 0x04020000#32
  simp; rfl
theorem bgezl (rs : RegNum) (offset : BitVec 16) :
    Statement (.bgezl rs offset) := by
  change packI 0b000001#6 rs 0b00011#5 offset &&& 0xFC1F0000#32 = 0x04030000#32
  simp; rfl
theorem bltzal (rs : RegNum) (offset : BitVec 16) :
    Statement (.bltzal rs offset) := by
  change packI 0b000001#6 rs 0b10000#5 offset &&& 0xFC1F0000#32 = 0x04100000#32
  simp; rfl
theorem bgezal (rs : RegNum) (offset : BitVec 16) :
    Statement (.bgezal rs offset) := by
  change packI 0b000001#6 rs 0b10001#5 offset &&& 0xFC1F0000#32 = 0x04110000#32
  simp; rfl
theorem bltzall (rs : RegNum) (offset : BitVec 16) :
    Statement (.bltzall rs offset) := by
  change packI 0b000001#6 rs 0b10010#5 offset &&& 0xFC1F0000#32 = 0x04120000#32
  simp; rfl
theorem bgezall (rs : RegNum) (offset : BitVec 16) :
    Statement (.bgezall rs offset) := by
  change packI 0b000001#6 rs 0b10011#5 offset &&& 0xFC1F0000#32 = 0x04130000#32
  simp; rfl
theorem tgei (rs : RegNum) (imm : BitVec 16) :
    Statement (.tgei rs imm) := by
  change packI 0b000001#6 rs 0b01000#5 imm &&& 0xFC1F0000#32 = 0x04080000#32
  simp; rfl
theorem tgeiu (rs : RegNum) (imm : BitVec 16) :
    Statement (.tgeiu rs imm) := by
  change packI 0b000001#6 rs 0b01001#5 imm &&& 0xFC1F0000#32 = 0x04090000#32
  simp; rfl
theorem tlti (rs : RegNum) (imm : BitVec 16) :
    Statement (.tlti rs imm) := by
  change packI 0b000001#6 rs 0b01010#5 imm &&& 0xFC1F0000#32 = 0x040A0000#32
  simp; rfl
theorem tltiu (rs : RegNum) (imm : BitVec 16) :
    Statement (.tltiu rs imm) := by
  change packI 0b000001#6 rs 0b01011#5 imm &&& 0xFC1F0000#32 = 0x040B0000#32
  simp; rfl
theorem teqi (rs : RegNum) (imm : BitVec 16) :
    Statement (.teqi rs imm) := by
  change packI 0b000001#6 rs 0b01100#5 imm &&& 0xFC1F0000#32 = 0x040C0000#32
  simp; rfl
theorem tnei (rs : RegNum) (imm : BitVec 16) :
    Statement (.tnei rs imm) := by
  change packI 0b000001#6 rs 0b01110#5 imm &&& 0xFC1F0000#32 = 0x040E0000#32
  simp; rfl
theorem j (target : BitVec 26) :
    Statement (.j target) := by
  change packJ 0b000010#6 target &&& 0xFC000000#32 = 0x08000000#32
  simp; rfl
theorem jal (target : BitVec 26) :
    Statement (.jal target) := by
  change packJ 0b000011#6 target &&& 0xFC000000#32 = 0x0C000000#32
  simp; rfl
theorem add (rs : RegNum) (rt : RegNum) (rd : RegNum) :
    Statement (.add rs rt rd) := by
  change packR 0b000000#6 rs rt rd 0b00000#5 0b100000#6 &&& 0xFC00003F#32 = 0x00000020#32
  simp; rfl
theorem addu (rs : RegNum) (rt : RegNum) (rd : RegNum) :
    Statement (.addu rs rt rd) := by
  change packR 0b000000#6 rs rt rd 0b00000#5 0b100001#6 &&& 0xFC00003F#32 = 0x00000021#32
  simp; rfl
theorem sub (rs : RegNum) (rt : RegNum) (rd : RegNum) :
    Statement (.sub rs rt rd) := by
  change packR 0b000000#6 rs rt rd 0b00000#5 0b100010#6 &&& 0xFC00003F#32 = 0x00000022#32
  simp; rfl
theorem subu (rs : RegNum) (rt : RegNum) (rd : RegNum) :
    Statement (.subu rs rt rd) := by
  change packR 0b000000#6 rs rt rd 0b00000#5 0b100011#6 &&& 0xFC00003F#32 = 0x00000023#32
  simp; rfl
theorem and (rs : RegNum) (rt : RegNum) (rd : RegNum) :
    Statement (.and rs rt rd) := by
  change packR 0b000000#6 rs rt rd 0b00000#5 0b100100#6 &&& 0xFC00003F#32 = 0x00000024#32
  simp; rfl
theorem or (rs : RegNum) (rt : RegNum) (rd : RegNum) :
    Statement (.or rs rt rd) := by
  change packR 0b000000#6 rs rt rd 0b00000#5 0b100101#6 &&& 0xFC00003F#32 = 0x00000025#32
  simp; rfl
theorem xor (rs : RegNum) (rt : RegNum) (rd : RegNum) :
    Statement (.xor rs rt rd) := by
  change packR 0b000000#6 rs rt rd 0b00000#5 0b100110#6 &&& 0xFC00003F#32 = 0x00000026#32
  simp; rfl
theorem nor (rs : RegNum) (rt : RegNum) (rd : RegNum) :
    Statement (.nor rs rt rd) := by
  change packR 0b000000#6 rs rt rd 0b00000#5 0b100111#6 &&& 0xFC00003F#32 = 0x00000027#32
  simp; rfl
theorem slt (rs : RegNum) (rt : RegNum) (rd : RegNum) :
    Statement (.slt rs rt rd) := by
  change packR 0b000000#6 rs rt rd 0b00000#5 0b101010#6 &&& 0xFC00003F#32 = 0x0000002A#32
  simp; rfl
theorem sltu (rs : RegNum) (rt : RegNum) (rd : RegNum) :
    Statement (.sltu rs rt rd) := by
  change packR 0b000000#6 rs rt rd 0b00000#5 0b101011#6 &&& 0xFC00003F#32 = 0x0000002B#32
  simp; rfl
theorem dadd (rs : RegNum) (rt : RegNum) (rd : RegNum) :
    Statement (.dadd rs rt rd) := by
  change packR 0b000000#6 rs rt rd 0b00000#5 0b101100#6 &&& 0xFC00003F#32 = 0x0000002C#32
  simp; rfl
theorem daddu (rs : RegNum) (rt : RegNum) (rd : RegNum) :
    Statement (.daddu rs rt rd) := by
  change packR 0b000000#6 rs rt rd 0b00000#5 0b101101#6 &&& 0xFC00003F#32 = 0x0000002D#32
  simp; rfl
theorem dsub (rs : RegNum) (rt : RegNum) (rd : RegNum) :
    Statement (.dsub rs rt rd) := by
  change packR 0b000000#6 rs rt rd 0b00000#5 0b101110#6 &&& 0xFC00003F#32 = 0x0000002E#32
  simp; rfl
theorem dsubu (rs : RegNum) (rt : RegNum) (rd : RegNum) :
    Statement (.dsubu rs rt rd) := by
  change packR 0b000000#6 rs rt rd 0b00000#5 0b101111#6 &&& 0xFC00003F#32 = 0x0000002F#32
  simp; rfl
theorem movz (rs : RegNum) (rt : RegNum) (rd : RegNum) :
    Statement (.movz rs rt rd) := by
  change packR 0b000000#6 rs rt rd 0b00000#5 0b001010#6 &&& 0xFC00003F#32 = 0x0000000A#32
  simp; rfl
theorem movn (rs : RegNum) (rt : RegNum) (rd : RegNum) :
    Statement (.movn rs rt rd) := by
  change packR 0b000000#6 rs rt rd 0b00000#5 0b001011#6 &&& 0xFC00003F#32 = 0x0000000B#32
  simp; rfl
theorem sllv (rs : RegNum) (rt : RegNum) (rd : RegNum) :
    Statement (.sllv rs rt rd) := by
  change packR 0b000000#6 rs rt rd 0b00000#5 0b000100#6 &&& 0xFC00003F#32 = 0x00000004#32
  simp; rfl
theorem srav (rs : RegNum) (rt : RegNum) (rd : RegNum) :
    Statement (.srav rs rt rd) := by
  change packR 0b000000#6 rs rt rd 0b00000#5 0b000111#6 &&& 0xFC00003F#32 = 0x00000007#32
  simp; rfl
theorem dsllv (rs : RegNum) (rt : RegNum) (rd : RegNum) :
    Statement (.dsllv rs rt rd) := by
  change packR 0b000000#6 rs rt rd 0b00000#5 0b010100#6 &&& 0xFC00003F#32 = 0x00000014#32
  simp; rfl
theorem dsrav (rs : RegNum) (rt : RegNum) (rd : RegNum) :
    Statement (.dsrav rs rt rd) := by
  change packR 0b000000#6 rs rt rd 0b00000#5 0b010111#6 &&& 0xFC00003F#32 = 0x00000017#32
  simp; rfl
theorem srlv (rs : RegNum) (rt : RegNum) (rd : RegNum) :
    Statement (.srlv rs rt rd) := by
  change packR 0b000000#6 rs rt rd 0b00000#5 0b000110#6 &&& 0xFC00007F#32 = 0x00000006#32
  simp; rfl
theorem rorv (rs : RegNum) (rt : RegNum) (rd : RegNum) :
    Statement (.rorv rs rt rd) := by
  change packR 0b000000#6 rs rt rd 0b00001#5 0b000110#6 &&& 0xFC00007F#32 = 0x00000046#32
  simp; rfl
theorem dsrlv (rs : RegNum) (rt : RegNum) (rd : RegNum) :
    Statement (.dsrlv rs rt rd) := by
  change packR 0b000000#6 rs rt rd 0b00000#5 0b010110#6 &&& 0xFC00007F#32 = 0x00000016#32
  simp; rfl
theorem drorv (rs : RegNum) (rt : RegNum) (rd : RegNum) :
    Statement (.drorv rs rt rd) := by
  change packR 0b000000#6 rs rt rd 0b00001#5 0b010110#6 &&& 0xFC00007F#32 = 0x00000056#32
  simp; rfl
theorem ssnop :
    Statement (.ssnop) := by
  change packR 0b000000#6 0b00000#5 0b00000#5 0b00000#5 0b00001#5 0b000000#6 &&& 0xFFFFFFFF#32 = 0x00000040#32
  simp; rfl
theorem sll (rt : RegNum) (rd : RegNum) (sa : BitVec 5) :
    Statement (.sll rt rd sa) := by
  change packR 0b000000#6 0b00000#5 rt rd sa 0b000000#6 &&& 0xFC00003F#32 = 0x00000000#32
  simp; rfl
theorem sra (rt : RegNum) (rd : RegNum) (sa : BitVec 5) :
    Statement (.sra rt rd sa) := by
  change packR 0b000000#6 0b00000#5 rt rd sa 0b000011#6 &&& 0xFC00003F#32 = 0x00000003#32
  simp; rfl
theorem dsll (rt : RegNum) (rd : RegNum) (sa : BitVec 5) :
    Statement (.dsll rt rd sa) := by
  change packR 0b000000#6 0b00000#5 rt rd sa 0b111000#6 &&& 0xFC00003F#32 = 0x00000038#32
  simp; rfl
theorem dsra (rt : RegNum) (rd : RegNum) (sa : BitVec 5) :
    Statement (.dsra rt rd sa) := by
  change packR 0b000000#6 0b00000#5 rt rd sa 0b111011#6 &&& 0xFC00003F#32 = 0x0000003B#32
  simp; rfl
theorem dsll32 (rt : RegNum) (rd : RegNum) (sa : BitVec 5) :
    Statement (.dsll32 rt rd sa) := by
  change packR 0b000000#6 0b00000#5 rt rd sa 0b111100#6 &&& 0xFC00003F#32 = 0x0000003C#32
  simp; rfl
theorem dsra32 (rt : RegNum) (rd : RegNum) (sa : BitVec 5) :
    Statement (.dsra32 rt rd sa) := by
  change packR 0b000000#6 0b00000#5 rt rd sa 0b111111#6 &&& 0xFC00003F#32 = 0x0000003F#32
  simp; rfl
theorem srl (rt : RegNum) (rd : RegNum) (sa : BitVec 5) :
    Statement (.srl rt rd sa) := by
  change packR 0b000000#6 0b00000#5 rt rd sa 0b000010#6 &&& 0xFC20003F#32 = 0x00000002#32
  simp; rfl
theorem ror (rt : RegNum) (rd : RegNum) (sa : BitVec 5) :
    Statement (.ror rt rd sa) := by
  change packR 0b000000#6 0b00001#5 rt rd sa 0b000010#6 &&& 0xFC20003F#32 = 0x00200002#32
  simp; rfl
theorem dsrl (rt : RegNum) (rd : RegNum) (sa : BitVec 5) :
    Statement (.dsrl rt rd sa) := by
  change packR 0b000000#6 0b00000#5 rt rd sa 0b111010#6 &&& 0xFC20003F#32 = 0x0000003A#32
  simp; rfl
theorem dror (rt : RegNum) (rd : RegNum) (sa : BitVec 5) :
    Statement (.dror rt rd sa) := by
  change packR 0b000000#6 0b00001#5 rt rd sa 0b111010#6 &&& 0xFC20003F#32 = 0x0020003A#32
  simp; rfl
theorem dsrl32 (rt : RegNum) (rd : RegNum) (sa : BitVec 5) :
    Statement (.dsrl32 rt rd sa) := by
  change packR 0b000000#6 0b00000#5 rt rd sa 0b111110#6 &&& 0xFC20003F#32 = 0x0000003E#32
  simp; rfl
theorem dror32 (rt : RegNum) (rd : RegNum) (sa : BitVec 5) :
    Statement (.dror32 rt rd sa) := by
  change packR 0b000000#6 0b00001#5 rt rd sa 0b111110#6 &&& 0xFC20003F#32 = 0x0020003E#32
  simp; rfl
theorem movf (rs : RegNum) (cc : BitVec 3) (rd : RegNum) :
    Statement (.movf rs cc rd) := by
  change packR 0b000000#6 rs (packCc cc 0b0#1 0b0#1) rd 0b00000#5 0b000001#6 &&& 0xFC01003F#32 = 0x00000001#32
  simp; rfl
theorem movt (rs : RegNum) (cc : BitVec 3) (rd : RegNum) :
    Statement (.movt rs cc rd) := by
  change packR 0b000000#6 rs (packCc cc 0b0#1 0b1#1) rd 0b00000#5 0b000001#6 &&& 0xFC01003F#32 = 0x00010001#32
  simp; rfl
theorem jr (rs : RegNum) :
    Statement (.jr rs) := by
  change packR 0b000000#6 rs 0b00000#5 0b00000#5 0b00000#5 0b001000#6 &&& 0xFC00003F#32 = 0x00000008#32
  simp; rfl
theorem jalr (rs : RegNum) (rd : RegNum) :
    Statement (.jalr rs rd) := by
  change packR 0b000000#6 rs 0b00000#5 rd 0b00000#5 0b001001#6 &&& 0xFC00003F#32 = 0x00000009#32
  simp; rfl
theorem syscall (code : BitVec 20) :
    Statement (.syscall code) := by
  change packCode 0b000000#6 code 0b001100#6 &&& 0xFC00003F#32 = 0x0000000C#32
  simp; rfl
theorem breakpoint (code : BitVec 20) :
    Statement (.breakpoint code) := by
  change packCode 0b000000#6 code 0b001101#6 &&& 0xFC00003F#32 = 0x0000000D#32
  simp; rfl
theorem sync (stype : BitVec 5) :
    Statement (.sync stype) := by
  change packR 0b000000#6 0b00000#5 0b00000#5 0b00000#5 stype 0b001111#6 &&& 0xFC00003F#32 = 0x0000000F#32
  simp; rfl
theorem mfhi (rd : RegNum) :
    Statement (.mfhi rd) := by
  change packR 0b000000#6 0b00000#5 0b00000#5 rd 0b00000#5 0b010000#6 &&& 0xFC00003F#32 = 0x00000010#32
  simp; rfl
theorem mthi (rs : RegNum) :
    Statement (.mthi rs) := by
  change packR 0b000000#6 rs 0b00000#5 0b00000#5 0b00000#5 0b010001#6 &&& 0xFC00003F#32 = 0x00000011#32
  simp; rfl
theorem mflo (rd : RegNum) :
    Statement (.mflo rd) := by
  change packR 0b000000#6 0b00000#5 0b00000#5 rd 0b00000#5 0b010010#6 &&& 0xFC00003F#32 = 0x00000012#32
  simp; rfl
theorem mtlo (rs : RegNum) :
    Statement (.mtlo rs) := by
  change packR 0b000000#6 rs 0b00000#5 0b00000#5 0b00000#5 0b010011#6 &&& 0xFC00003F#32 = 0x00000013#32
  simp; rfl
theorem mult (rs : RegNum) (rt : RegNum) :
    Statement (.mult rs rt) := by
  change packR 0b000000#6 rs rt 0b00000#5 0b00000#5 0b011000#6 &&& 0xFC0007FF#32 = 0x00000018#32
  simp; rfl
theorem multu (rs : RegNum) (rt : RegNum) :
    Statement (.multu rs rt) := by
  change packR 0b000000#6 rs rt 0b00000#5 0b00000#5 0b011001#6 &&& 0xFC0007FF#32 = 0x00000019#32
  simp; rfl
theorem div (rs : RegNum) (rt : RegNum) :
    Statement (.div rs rt) := by
  change packR 0b000000#6 rs rt 0b00000#5 0b00000#5 0b011010#6 &&& 0xFC00003F#32 = 0x0000001A#32
  simp; rfl
theorem divu (rs : RegNum) (rt : RegNum) :
    Statement (.divu rs rt) := by
  change packR 0b000000#6 rs rt 0b00000#5 0b00000#5 0b011011#6 &&& 0xFC00003F#32 = 0x0000001B#32
  simp; rfl
theorem dmult (rs : RegNum) (rt : RegNum) :
    Statement (.dmult rs rt) := by
  change packR 0b000000#6 rs rt 0b00000#5 0b00000#5 0b011100#6 &&& 0xFC00003F#32 = 0x0000001C#32
  simp; rfl
theorem dmultu (rs : RegNum) (rt : RegNum) :
    Statement (.dmultu rs rt) := by
  change packR 0b000000#6 rs rt 0b00000#5 0b00000#5 0b011101#6 &&& 0xFC00003F#32 = 0x0000001D#32
  simp; rfl
theorem ddiv (rs : RegNum) (rt : RegNum) :
    Statement (.ddiv rs rt) := by
  change packR 0b000000#6 rs rt 0b00000#5 0b00000#5 0b011110#6 &&& 0xFC00003F#32 = 0x0000001E#32
  simp; rfl
theorem ddivu (rs : RegNum) (rt : RegNum) :
    Statement (.ddivu rs rt) := by
  change packR 0b000000#6 rs rt 0b00000#5 0b00000#5 0b011111#6 &&& 0xFC00003F#32 = 0x0000001F#32
  simp; rfl
theorem mul (rs : RegNum) (rt : RegNum) (rd : RegNum) :
    Statement (.mul rs rt rd) := by
  change packR 0b000000#6 rs rt rd 0b00001#5 0b011000#6 &&& 0xFC0007FF#32 = 0x00000058#32
  simp; rfl
theorem mulu (rs : RegNum) (rt : RegNum) (rd : RegNum) :
    Statement (.mulu rs rt rd) := by
  change packR 0b000000#6 rs rt rd 0b00001#5 0b011001#6 &&& 0xFC0007FF#32 = 0x00000059#32
  simp; rfl
theorem muls (rs : RegNum) (rt : RegNum) (rd : RegNum) :
    Statement (.muls rs rt rd) := by
  change packR 0b000000#6 rs rt rd 0b00011#5 0b011000#6 &&& 0xFC0007FF#32 = 0x000000D8#32
  simp; rfl
theorem mulsu (rs : RegNum) (rt : RegNum) (rd : RegNum) :
    Statement (.mulsu rs rt rd) := by
  change packR 0b000000#6 rs rt rd 0b00011#5 0b011001#6 &&& 0xFC0007FF#32 = 0x000000D9#32
  simp; rfl
theorem macc (rs : RegNum) (rt : RegNum) (rd : RegNum) :
    Statement (.macc rs rt rd) := by
  change packR 0b000000#6 rs rt rd 0b00101#5 0b011000#6 &&& 0xFC0007FF#32 = 0x00000158#32
  simp; rfl
theorem maccu (rs : RegNum) (rt : RegNum) (rd : RegNum) :
    Statement (.maccu rs rt rd) := by
  change packR 0b000000#6 rs rt rd 0b00101#5 0b011001#6 &&& 0xFC0007FF#32 = 0x00000159#32
  simp; rfl
theorem msac (rs : RegNum) (rt : RegNum) (rd : RegNum) :
    Statement (.msac rs rt rd) := by
  change packR 0b000000#6 rs rt rd 0b00111#5 0b011000#6 &&& 0xFC0007FF#32 = 0x000001D8#32
  simp; rfl
theorem msacu (rs : RegNum) (rt : RegNum) (rd : RegNum) :
    Statement (.msacu rs rt rd) := by
  change packR 0b000000#6 rs rt rd 0b00111#5 0b011001#6 &&& 0xFC0007FF#32 = 0x000001D9#32
  simp; rfl
theorem mulhi (rs : RegNum) (rt : RegNum) (rd : RegNum) :
    Statement (.mulhi rs rt rd) := by
  change packR 0b000000#6 rs rt rd 0b01001#5 0b011000#6 &&& 0xFC0007FF#32 = 0x00000258#32
  simp; rfl
theorem mulhiu (rs : RegNum) (rt : RegNum) (rd : RegNum) :
    Statement (.mulhiu rs rt rd) := by
  change packR 0b000000#6 rs rt rd 0b01001#5 0b011001#6 &&& 0xFC0007FF#32 = 0x00000259#32
  simp; rfl
theorem mulshi (rs : RegNum) (rt : RegNum) (rd : RegNum) :
    Statement (.mulshi rs rt rd) := by
  change packR 0b000000#6 rs rt rd 0b01011#5 0b011000#6 &&& 0xFC0007FF#32 = 0x000002D8#32
  simp; rfl
theorem mulshiu (rs : RegNum) (rt : RegNum) (rd : RegNum) :
    Statement (.mulshiu rs rt rd) := by
  change packR 0b000000#6 rs rt rd 0b01011#5 0b011001#6 &&& 0xFC0007FF#32 = 0x000002D9#32
  simp; rfl
theorem macchi (rs : RegNum) (rt : RegNum) (rd : RegNum) :
    Statement (.macchi rs rt rd) := by
  change packR 0b000000#6 rs rt rd 0b01101#5 0b011000#6 &&& 0xFC0007FF#32 = 0x00000358#32
  simp; rfl
theorem macchiu (rs : RegNum) (rt : RegNum) (rd : RegNum) :
    Statement (.macchiu rs rt rd) := by
  change packR 0b000000#6 rs rt rd 0b01101#5 0b011001#6 &&& 0xFC0007FF#32 = 0x00000359#32
  simp; rfl
theorem msachi (rs : RegNum) (rt : RegNum) (rd : RegNum) :
    Statement (.msachi rs rt rd) := by
  change packR 0b000000#6 rs rt rd 0b01111#5 0b011000#6 &&& 0xFC0007FF#32 = 0x000003D8#32
  simp; rfl
theorem msachiu (rs : RegNum) (rt : RegNum) (rd : RegNum) :
    Statement (.msachiu rs rt rd) := by
  change packR 0b000000#6 rs rt rd 0b01111#5 0b011001#6 &&& 0xFC0007FF#32 = 0x000003D9#32
  simp; rfl
theorem tge (rs : RegNum) (rt : RegNum) (code : BitVec 10) :
    Statement (.tge rs rt code) := by
  change packTrap 0b000000#6 rs rt code 0b110000#6 &&& 0xFC00003F#32 = 0x00000030#32
  simp; rfl
theorem tgeu (rs : RegNum) (rt : RegNum) (code : BitVec 10) :
    Statement (.tgeu rs rt code) := by
  change packTrap 0b000000#6 rs rt code 0b110001#6 &&& 0xFC00003F#32 = 0x00000031#32
  simp; rfl
theorem tlt (rs : RegNum) (rt : RegNum) (code : BitVec 10) :
    Statement (.tlt rs rt code) := by
  change packTrap 0b000000#6 rs rt code 0b110010#6 &&& 0xFC00003F#32 = 0x00000032#32
  simp; rfl
theorem tltu (rs : RegNum) (rt : RegNum) (code : BitVec 10) :
    Statement (.tltu rs rt code) := by
  change packTrap 0b000000#6 rs rt code 0b110011#6 &&& 0xFC00003F#32 = 0x00000033#32
  simp; rfl
theorem teq (rs : RegNum) (rt : RegNum) (code : BitVec 10) :
    Statement (.teq rs rt code) := by
  change packTrap 0b000000#6 rs rt code 0b110100#6 &&& 0xFC00003F#32 = 0x00000034#32
  simp; rfl
theorem tne (rs : RegNum) (rt : RegNum) (code : BitVec 10) :
    Statement (.tne rs rt code) := by
  change packTrap 0b000000#6 rs rt code 0b110110#6 &&& 0xFC00003F#32 = 0x00000036#32
  simp; rfl
theorem madd (rs : RegNum) (rt : RegNum) :
    Statement (.madd rs rt) := by
  change packR 0b011100#6 rs rt 0b00000#5 0b00000#5 0b000000#6 &&& 0xFC00003F#32 = 0x70000000#32
  simp; rfl
theorem maddu (rs : RegNum) (rt : RegNum) :
    Statement (.maddu rs rt) := by
  change packR 0b011100#6 rs rt 0b00000#5 0b00000#5 0b000001#6 &&& 0xFC00003F#32 = 0x70000001#32
  simp; rfl
theorem msub (rs : RegNum) (rt : RegNum) :
    Statement (.msub rs rt) := by
  change packR 0b011100#6 rs rt 0b00000#5 0b00000#5 0b000100#6 &&& 0xFC00003F#32 = 0x70000004#32
  simp; rfl
theorem msubu (rs : RegNum) (rt : RegNum) :
    Statement (.msubu rs rt) := by
  change packR 0b011100#6 rs rt 0b00000#5 0b00000#5 0b000101#6 &&& 0xFC00003F#32 = 0x70000005#32
  simp; rfl
theorem mul64 (rs : RegNum) (rt : RegNum) (rd : RegNum) :
    Statement (.mul64 rs rt rd) := by
  change packR 0b011100#6 rs rt rd 0b00000#5 0b000010#6 &&& 0xFC00003F#32 = 0x70000002#32
  simp; rfl
theorem clz (rs : RegNum) (rd : RegNum) :
    Statement (.clz rs rd) := by
  change packR 0b011100#6 rs 0b00000#5 rd 0b00000#5 0b100000#6 &&& 0xFC00003F#32 = 0x70000020#32
  simp; rfl
theorem clo (rs : RegNum) (rd : RegNum) :
    Statement (.clo rs rd) := by
  change packR 0b011100#6 rs 0b00000#5 rd 0b00000#5 0b100001#6 &&& 0xFC00003F#32 = 0x70000021#32
  simp; rfl
theorem dclz (rs : RegNum) (rd : RegNum) :
    Statement (.dclz rs rd) := by
  change packR 0b011100#6 rs 0b00000#5 rd 0b00000#5 0b100100#6 &&& 0xFC00003F#32 = 0x70000024#32
  simp; rfl
theorem dclo (rs : RegNum) (rd : RegNum) :
    Statement (.dclo rs rd) := by
  change packR 0b011100#6 rs 0b00000#5 rd 0b00000#5 0b100101#6 &&& 0xFC00003F#32 = 0x70000025#32
  simp; rfl
theorem mfpc (rt : RegNum) (reg : BitVec 5) :
    Statement (.mfpc rt reg) := by
  change packR 0b010000#6 0b00000#5 rt 0b11001#5 0b00000#5 (packPerf reg 0b1#1) &&& 0xFFE0F801#32 = 0x4000C801#32
  simp; rfl
theorem mfps (rt : RegNum) (reg : BitVec 5) :
    Statement (.mfps rt reg) := by
  change packR 0b010000#6 0b00000#5 rt 0b11001#5 0b00000#5 (packPerf reg 0b0#1) &&& 0xFFE0F801#32 = 0x4000C800#32
  simp; rfl
theorem mtpc (rt : RegNum) (reg : BitVec 5) :
    Statement (.mtpc rt reg) := by
  change packR 0b010000#6 0b00100#5 rt 0b11001#5 0b00000#5 (packPerf reg 0b1#1) &&& 0xFFE0F801#32 = 0x4080C801#32
  simp; rfl
theorem mtps (rt : RegNum) (reg : BitVec 5) :
    Statement (.mtps rt reg) := by
  change packR 0b010000#6 0b00100#5 rt 0b11001#5 0b00000#5 (packPerf reg 0b0#1) &&& 0xFFE0F801#32 = 0x4080C800#32
  simp; rfl
theorem mfc0 (rt : RegNum) (rd : RegNum) :
    Statement (.mfc0 rt rd) := by
  change packR 0b010000#6 0b00000#5 rt rd 0b00000#5 0b000000#6 &&& 0xFFE00000#32 = 0x40000000#32
  simp; rfl
theorem dmfc0 (rt : RegNum) (rd : RegNum) :
    Statement (.dmfc0 rt rd) := by
  change packR 0b010000#6 0b00001#5 rt rd 0b00000#5 0b000000#6 &&& 0xFFE00000#32 = 0x40200000#32
  simp; rfl
theorem mtc0 (rt : RegNum) (rd : RegNum) :
    Statement (.mtc0 rt rd) := by
  change packR 0b010000#6 0b00100#5 rt rd 0b00000#5 0b000000#6 &&& 0xFFE00000#32 = 0x40800000#32
  simp; rfl
theorem dmtc0 (rt : RegNum) (rd : RegNum) :
    Statement (.dmtc0 rt rd) := by
  change packR 0b010000#6 0b00101#5 rt rd 0b00000#5 0b000000#6 &&& 0xFFE00000#32 = 0x40A00000#32
  simp; rfl
theorem bc0f (offset : BitVec 16) :
    Statement (.bc0f offset) := by
  change packI 0b010000#6 0b01000#5 0b00000#5 offset &&& 0xFFFF0000#32 = 0x41000000#32
  simp; rfl
theorem bc0t (offset : BitVec 16) :
    Statement (.bc0t offset) := by
  change packI 0b010000#6 0b01000#5 0b00001#5 offset &&& 0xFFFF0000#32 = 0x41010000#32
  simp; rfl
theorem bc0fl (offset : BitVec 16) :
    Statement (.bc0fl offset) := by
  change packI 0b010000#6 0b01000#5 0b00010#5 offset &&& 0xFFFF0000#32 = 0x41020000#32
  simp; rfl
theorem bc0tl (offset : BitVec 16) :
    Statement (.bc0tl offset) := by
  change packI 0b010000#6 0b01000#5 0b00011#5 offset &&& 0xFFFF0000#32 = 0x41030000#32
  simp; rfl
theorem tlbr :
    Statement (.tlbr) := by
  change packCode 0b010000#6 0b10000000000000000000#20 0b000001#6 &&& 0xFE00003F#32 = 0x42000001#32
  simp; rfl
theorem tlbwi :
    Statement (.tlbwi) := by
  change packCode 0b010000#6 0b10000000000000000000#20 0b000010#6 &&& 0xFE00003F#32 = 0x42000002#32
  simp; rfl
theorem tlbwr :
    Statement (.tlbwr) := by
  change packCode 0b010000#6 0b10000000000000000000#20 0b000110#6 &&& 0xFE00003F#32 = 0x42000006#32
  simp; rfl
theorem tlbp :
    Statement (.tlbp) := by
  change packCode 0b010000#6 0b10000000000000000000#20 0b001000#6 &&& 0xFE00003F#32 = 0x42000008#32
  simp; rfl
theorem eret :
    Statement (.eret) := by
  change packCode 0b010000#6 0b10000000000000000000#20 0b011000#6 &&& 0xFE00003F#32 = 0x42000018#32
  simp; rfl
theorem wait (code : BitVec 19) :
    Statement (.wait code) := by
  change packCode 0b010000#6 (packWait code) 0b100000#6 &&& 0xFE00003F#32 = 0x42000020#32
  simp; rfl
theorem mfc1 (rt : RegNum) (fs : FprNum) :
    Statement (.mfc1 rt fs) := by
  change packR 0b010001#6 0b00000#5 rt fs 0b00000#5 0b000000#6 &&& 0xFFE00000#32 = 0x44000000#32
  simp; rfl
theorem dmfc1 (rt : RegNum) (fs : FprNum) :
    Statement (.dmfc1 rt fs) := by
  change packR 0b010001#6 0b00001#5 rt fs 0b00000#5 0b000000#6 &&& 0xFFE00000#32 = 0x44200000#32
  simp; rfl
theorem cfc1 (rt : RegNum) (fs : FprNum) :
    Statement (.cfc1 rt fs) := by
  change packR 0b010001#6 0b00010#5 rt fs 0b00000#5 0b000000#6 &&& 0xFFE00000#32 = 0x44400000#32
  simp; rfl
theorem mtc1 (rt : RegNum) (fs : FprNum) :
    Statement (.mtc1 rt fs) := by
  change packR 0b010001#6 0b00100#5 rt fs 0b00000#5 0b000000#6 &&& 0xFFE00000#32 = 0x44800000#32
  simp; rfl
theorem dmtc1 (rt : RegNum) (fs : FprNum) :
    Statement (.dmtc1 rt fs) := by
  change packR 0b010001#6 0b00101#5 rt fs 0b00000#5 0b000000#6 &&& 0xFFE00000#32 = 0x44A00000#32
  simp; rfl
theorem ctc1 (rt : RegNum) (fs : FprNum) :
    Statement (.ctc1 rt fs) := by
  change packR 0b010001#6 0b00110#5 rt fs 0b00000#5 0b000000#6 &&& 0xFFE00000#32 = 0x44C00000#32
  simp; rfl
theorem bc1f (cc : BitVec 3) (offset : BitVec 16) :
    Statement (.bc1f cc offset) := by
  change packI 0b010001#6 0b01000#5 (packCc cc 0b0#1 0b0#1) offset &&& 0xFFE30000#32 = 0x45000000#32
  simp; rfl
theorem bc1t (cc : BitVec 3) (offset : BitVec 16) :
    Statement (.bc1t cc offset) := by
  change packI 0b010001#6 0b01000#5 (packCc cc 0b0#1 0b1#1) offset &&& 0xFFE30000#32 = 0x45010000#32
  simp; rfl
theorem bc1fl (cc : BitVec 3) (offset : BitVec 16) :
    Statement (.bc1fl cc offset) := by
  change packI 0b010001#6 0b01000#5 (packCc cc 0b1#1 0b0#1) offset &&& 0xFFE30000#32 = 0x45020000#32
  simp; rfl
theorem bc1tl (cc : BitVec 3) (offset : BitVec 16) :
    Statement (.bc1tl cc offset) := by
  change packI 0b010001#6 0b01000#5 (packCc cc 0b1#1 0b1#1) offset &&& 0xFFE30000#32 = 0x45030000#32
  simp; rfl
theorem fpAddS (ft : FprNum) (fs : FprNum) (fd : FprNum) :
    Statement (.fpAddS ft fs fd) := by
  change packR 0b010001#6 0b10000#5 ft fs fd 0b000000#6 &&& 0xFFE0003F#32 = 0x46000000#32
  simp; rfl
theorem fpAddD (ft : FprNum) (fs : FprNum) (fd : FprNum) :
    Statement (.fpAddD ft fs fd) := by
  change packR 0b010001#6 0b10001#5 ft fs fd 0b000000#6 &&& 0xFFE0003F#32 = 0x46200000#32
  simp; rfl
theorem fpSubS (ft : FprNum) (fs : FprNum) (fd : FprNum) :
    Statement (.fpSubS ft fs fd) := by
  change packR 0b010001#6 0b10000#5 ft fs fd 0b000001#6 &&& 0xFFE0003F#32 = 0x46000001#32
  simp; rfl
theorem fpSubD (ft : FprNum) (fs : FprNum) (fd : FprNum) :
    Statement (.fpSubD ft fs fd) := by
  change packR 0b010001#6 0b10001#5 ft fs fd 0b000001#6 &&& 0xFFE0003F#32 = 0x46200001#32
  simp; rfl
theorem fpMulS (ft : FprNum) (fs : FprNum) (fd : FprNum) :
    Statement (.fpMulS ft fs fd) := by
  change packR 0b010001#6 0b10000#5 ft fs fd 0b000010#6 &&& 0xFFE0003F#32 = 0x46000002#32
  simp; rfl
theorem fpMulD (ft : FprNum) (fs : FprNum) (fd : FprNum) :
    Statement (.fpMulD ft fs fd) := by
  change packR 0b010001#6 0b10001#5 ft fs fd 0b000010#6 &&& 0xFFE0003F#32 = 0x46200002#32
  simp; rfl
theorem fpDivS (ft : FprNum) (fs : FprNum) (fd : FprNum) :
    Statement (.fpDivS ft fs fd) := by
  change packR 0b010001#6 0b10000#5 ft fs fd 0b000011#6 &&& 0xFFE0003F#32 = 0x46000003#32
  simp; rfl
theorem fpDivD (ft : FprNum) (fs : FprNum) (fd : FprNum) :
    Statement (.fpDivD ft fs fd) := by
  change packR 0b010001#6 0b10001#5 ft fs fd 0b000011#6 &&& 0xFFE0003F#32 = 0x46200003#32
  simp; rfl
theorem fpSqrtS (fs : FprNum) (fd : FprNum) :
    Statement (.fpSqrtS fs fd) := by
  change packR 0b010001#6 0b10000#5 0b00000#5 fs fd 0b000100#6 &&& 0xFFE0003F#32 = 0x46000004#32
  simp; rfl
theorem fpSqrtD (fs : FprNum) (fd : FprNum) :
    Statement (.fpSqrtD fs fd) := by
  change packR 0b010001#6 0b10001#5 0b00000#5 fs fd 0b000100#6 &&& 0xFFE0003F#32 = 0x46200004#32
  simp; rfl
theorem fpAbsS (fs : FprNum) (fd : FprNum) :
    Statement (.fpAbsS fs fd) := by
  change packR 0b010001#6 0b10000#5 0b00000#5 fs fd 0b000101#6 &&& 0xFFE0003F#32 = 0x46000005#32
  simp; rfl
theorem fpAbsD (fs : FprNum) (fd : FprNum) :
    Statement (.fpAbsD fs fd) := by
  change packR 0b010001#6 0b10001#5 0b00000#5 fs fd 0b000101#6 &&& 0xFFE0003F#32 = 0x46200005#32
  simp; rfl
theorem fpMovS (fs : FprNum) (fd : FprNum) :
    Statement (.fpMovS fs fd) := by
  change packR 0b010001#6 0b10000#5 0b00000#5 fs fd 0b000110#6 &&& 0xFFE0003F#32 = 0x46000006#32
  simp; rfl
theorem fpMovD (fs : FprNum) (fd : FprNum) :
    Statement (.fpMovD fs fd) := by
  change packR 0b010001#6 0b10001#5 0b00000#5 fs fd 0b000110#6 &&& 0xFFE0003F#32 = 0x46200006#32
  simp; rfl
theorem fpNegS (fs : FprNum) (fd : FprNum) :
    Statement (.fpNegS fs fd) := by
  change packR 0b010001#6 0b10000#5 0b00000#5 fs fd 0b000111#6 &&& 0xFFE0003F#32 = 0x46000007#32
  simp; rfl
theorem fpNegD (fs : FprNum) (fd : FprNum) :
    Statement (.fpNegD fs fd) := by
  change packR 0b010001#6 0b10001#5 0b00000#5 fs fd 0b000111#6 &&& 0xFFE0003F#32 = 0x46200007#32
  simp; rfl
theorem fpRoundLS (fs : FprNum) (fd : FprNum) :
    Statement (.fpRoundLS fs fd) := by
  change packR 0b010001#6 0b10000#5 0b00000#5 fs fd 0b001000#6 &&& 0xFFE0003F#32 = 0x46000008#32
  simp; rfl
theorem fpRoundLD (fs : FprNum) (fd : FprNum) :
    Statement (.fpRoundLD fs fd) := by
  change packR 0b010001#6 0b10001#5 0b00000#5 fs fd 0b001000#6 &&& 0xFFE0003F#32 = 0x46200008#32
  simp; rfl
theorem fpTruncLS (fs : FprNum) (fd : FprNum) :
    Statement (.fpTruncLS fs fd) := by
  change packR 0b010001#6 0b10000#5 0b00000#5 fs fd 0b001001#6 &&& 0xFFE0003F#32 = 0x46000009#32
  simp; rfl
theorem fpTruncLD (fs : FprNum) (fd : FprNum) :
    Statement (.fpTruncLD fs fd) := by
  change packR 0b010001#6 0b10001#5 0b00000#5 fs fd 0b001001#6 &&& 0xFFE0003F#32 = 0x46200009#32
  simp; rfl
theorem fpCeilLS (fs : FprNum) (fd : FprNum) :
    Statement (.fpCeilLS fs fd) := by
  change packR 0b010001#6 0b10000#5 0b00000#5 fs fd 0b001010#6 &&& 0xFFE0003F#32 = 0x4600000A#32
  simp; rfl
theorem fpCeilLD (fs : FprNum) (fd : FprNum) :
    Statement (.fpCeilLD fs fd) := by
  change packR 0b010001#6 0b10001#5 0b00000#5 fs fd 0b001010#6 &&& 0xFFE0003F#32 = 0x4620000A#32
  simp; rfl
theorem fpFloorLS (fs : FprNum) (fd : FprNum) :
    Statement (.fpFloorLS fs fd) := by
  change packR 0b010001#6 0b10000#5 0b00000#5 fs fd 0b001011#6 &&& 0xFFE0003F#32 = 0x4600000B#32
  simp; rfl
theorem fpFloorLD (fs : FprNum) (fd : FprNum) :
    Statement (.fpFloorLD fs fd) := by
  change packR 0b010001#6 0b10001#5 0b00000#5 fs fd 0b001011#6 &&& 0xFFE0003F#32 = 0x4620000B#32
  simp; rfl
theorem fpRoundWS (fs : FprNum) (fd : FprNum) :
    Statement (.fpRoundWS fs fd) := by
  change packR 0b010001#6 0b10000#5 0b00000#5 fs fd 0b001100#6 &&& 0xFFE0003F#32 = 0x4600000C#32
  simp; rfl
theorem fpRoundWD (fs : FprNum) (fd : FprNum) :
    Statement (.fpRoundWD fs fd) := by
  change packR 0b010001#6 0b10001#5 0b00000#5 fs fd 0b001100#6 &&& 0xFFE0003F#32 = 0x4620000C#32
  simp; rfl
theorem fpTruncWS (fs : FprNum) (fd : FprNum) :
    Statement (.fpTruncWS fs fd) := by
  change packR 0b010001#6 0b10000#5 0b00000#5 fs fd 0b001101#6 &&& 0xFFE0003F#32 = 0x4600000D#32
  simp; rfl
theorem fpTruncWD (fs : FprNum) (fd : FprNum) :
    Statement (.fpTruncWD fs fd) := by
  change packR 0b010001#6 0b10001#5 0b00000#5 fs fd 0b001101#6 &&& 0xFFE0003F#32 = 0x4620000D#32
  simp; rfl
theorem fpCeilWS (fs : FprNum) (fd : FprNum) :
    Statement (.fpCeilWS fs fd) := by
  change packR 0b010001#6 0b10000#5 0b00000#5 fs fd 0b001110#6 &&& 0xFFE0003F#32 = 0x4600000E#32
  simp; rfl
theorem fpCeilWD (fs : FprNum) (fd : FprNum) :
    Statement (.fpCeilWD fs fd) := by
  change packR 0b010001#6 0b10001#5 0b00000#5 fs fd 0b001110#6 &&& 0xFFE0003F#32 = 0x4620000E#32
  simp; rfl
theorem fpFloorWS (fs : FprNum) (fd : FprNum) :
    Statement (.fpFloorWS fs fd) := by
  change packR 0b010001#6 0b10000#5 0b00000#5 fs fd 0b001111#6 &&& 0xFFE0003F#32 = 0x4600000F#32
  simp; rfl
theorem fpFloorWD (fs : FprNum) (fd : FprNum) :
    Statement (.fpFloorWD fs fd) := by
  change packR 0b010001#6 0b10001#5 0b00000#5 fs fd 0b001111#6 &&& 0xFFE0003F#32 = 0x4620000F#32
  simp; rfl
theorem fpRecipS (fs : FprNum) (fd : FprNum) :
    Statement (.fpRecipS fs fd) := by
  change packR 0b010001#6 0b10000#5 0b00000#5 fs fd 0b010101#6 &&& 0xFFE0003F#32 = 0x46000015#32
  simp; rfl
theorem fpRecipD (fs : FprNum) (fd : FprNum) :
    Statement (.fpRecipD fs fd) := by
  change packR 0b010001#6 0b10001#5 0b00000#5 fs fd 0b010101#6 &&& 0xFFE0003F#32 = 0x46200015#32
  simp; rfl
theorem fpRsqrtS (fs : FprNum) (fd : FprNum) :
    Statement (.fpRsqrtS fs fd) := by
  change packR 0b010001#6 0b10000#5 0b00000#5 fs fd 0b010110#6 &&& 0xFFE0003F#32 = 0x46000016#32
  simp; rfl
theorem fpRsqrtD (fs : FprNum) (fd : FprNum) :
    Statement (.fpRsqrtD fs fd) := by
  change packR 0b010001#6 0b10001#5 0b00000#5 fs fd 0b010110#6 &&& 0xFFE0003F#32 = 0x46200016#32
  simp; rfl
theorem fpCvtWS (fs : FprNum) (fd : FprNum) :
    Statement (.fpCvtWS fs fd) := by
  change packR 0b010001#6 0b10000#5 0b00000#5 fs fd 0b100100#6 &&& 0xFFE0003F#32 = 0x46000024#32
  simp; rfl
theorem fpCvtWD (fs : FprNum) (fd : FprNum) :
    Statement (.fpCvtWD fs fd) := by
  change packR 0b010001#6 0b10001#5 0b00000#5 fs fd 0b100100#6 &&& 0xFFE0003F#32 = 0x46200024#32
  simp; rfl
theorem fpCvtLS (fs : FprNum) (fd : FprNum) :
    Statement (.fpCvtLS fs fd) := by
  change packR 0b010001#6 0b10000#5 0b00000#5 fs fd 0b100101#6 &&& 0xFFE0003F#32 = 0x46000025#32
  simp; rfl
theorem fpCvtLD (fs : FprNum) (fd : FprNum) :
    Statement (.fpCvtLD fs fd) := by
  change packR 0b010001#6 0b10001#5 0b00000#5 fs fd 0b100101#6 &&& 0xFFE0003F#32 = 0x46200025#32
  simp; rfl
theorem fpCvtSD (fs : FprNum) (fd : FprNum) :
    Statement (.fpCvtSD fs fd) := by
  change packR 0b010001#6 0b10001#5 0b00000#5 fs fd 0b100000#6 &&& 0xFFE0003F#32 = 0x46200020#32
  simp; rfl
theorem fpCvtSW (fs : FprNum) (fd : FprNum) :
    Statement (.fpCvtSW fs fd) := by
  change packR 0b010001#6 0b10100#5 0b00000#5 fs fd 0b100000#6 &&& 0xFFE0003F#32 = 0x46800020#32
  simp; rfl
theorem fpCvtSL (fs : FprNum) (fd : FprNum) :
    Statement (.fpCvtSL fs fd) := by
  change packR 0b010001#6 0b10101#5 0b00000#5 fs fd 0b100000#6 &&& 0xFFE0003F#32 = 0x46A00020#32
  simp; rfl
theorem fpCvtDS (fs : FprNum) (fd : FprNum) :
    Statement (.fpCvtDS fs fd) := by
  change packR 0b010001#6 0b10000#5 0b00000#5 fs fd 0b100001#6 &&& 0xFFE0003F#32 = 0x46000021#32
  simp; rfl
theorem fpCvtDW (fs : FprNum) (fd : FprNum) :
    Statement (.fpCvtDW fs fd) := by
  change packR 0b010001#6 0b10100#5 0b00000#5 fs fd 0b100001#6 &&& 0xFFE0003F#32 = 0x46800021#32
  simp; rfl
theorem fpCvtDL (fs : FprNum) (fd : FprNum) :
    Statement (.fpCvtDL fs fd) := by
  change packR 0b010001#6 0b10101#5 0b00000#5 fs fd 0b100001#6 &&& 0xFFE0003F#32 = 0x46A00021#32
  simp; rfl
theorem fpMovfS (cc : BitVec 3) (fs : FprNum) (fd : FprNum) :
    Statement (.fpMovfS cc fs fd) := by
  change packR 0b010001#6 0b10000#5 (packCc cc 0b0#1 0b0#1) fs fd 0b010001#6 &&& 0xFFE1003F#32 = 0x46000011#32
  simp; rfl
theorem fpMovfD (cc : BitVec 3) (fs : FprNum) (fd : FprNum) :
    Statement (.fpMovfD cc fs fd) := by
  change packR 0b010001#6 0b10001#5 (packCc cc 0b0#1 0b0#1) fs fd 0b010001#6 &&& 0xFFE1003F#32 = 0x46200011#32
  simp; rfl
theorem fpMovtS (cc : BitVec 3) (fs : FprNum) (fd : FprNum) :
    Statement (.fpMovtS cc fs fd) := by
  change packR 0b010001#6 0b10000#5 (packCc cc 0b0#1 0b1#1) fs fd 0b010001#6 &&& 0xFFE1003F#32 = 0x46010011#32
  simp; rfl
theorem fpMovtD (cc : BitVec 3) (fs : FprNum) (fd : FprNum) :
    Statement (.fpMovtD cc fs fd) := by
  change packR 0b010001#6 0b10001#5 (packCc cc 0b0#1 0b1#1) fs fd 0b010001#6 &&& 0xFFE1003F#32 = 0x46210011#32
  simp; rfl
theorem fpMovzS (rt : RegNum) (fs : FprNum) (fd : FprNum) :
    Statement (.fpMovzS rt fs fd) := by
  change packR 0b010001#6 0b10000#5 rt fs fd 0b010010#6 &&& 0xFFE0003F#32 = 0x46000012#32
  simp; rfl
theorem fpMovzD (rt : RegNum) (fs : FprNum) (fd : FprNum) :
    Statement (.fpMovzD rt fs fd) := by
  change packR 0b010001#6 0b10001#5 rt fs fd 0b010010#6 &&& 0xFFE0003F#32 = 0x46200012#32
  simp; rfl
theorem fpMovnS (rt : RegNum) (fs : FprNum) (fd : FprNum) :
    Statement (.fpMovnS rt fs fd) := by
  change packR 0b010001#6 0b10000#5 rt fs fd 0b010011#6 &&& 0xFFE0003F#32 = 0x46000013#32
  simp; rfl
theorem fpMovnD (rt : RegNum) (fs : FprNum) (fd : FprNum) :
    Statement (.fpMovnD rt fs fd) := by
  change packR 0b010001#6 0b10001#5 rt fs fd 0b010011#6 &&& 0xFFE0003F#32 = 0x46200013#32
  simp; rfl
theorem fpCFS (ft : FprNum) (fs : FprNum) (cc : BitVec 3) :
    Statement (.fpCFS ft fs cc) := by
  change packR 0b010001#6 0b10000#5 ft fs (packCmpCc cc) 0b110000#6 &&& 0xFFE000FF#32 = 0x46000030#32
  simp; rfl
theorem fpCFD (ft : FprNum) (fs : FprNum) (cc : BitVec 3) :
    Statement (.fpCFD ft fs cc) := by
  change packR 0b010001#6 0b10001#5 ft fs (packCmpCc cc) 0b110000#6 &&& 0xFFE000FF#32 = 0x46200030#32
  simp; rfl
theorem fpCUnS (ft : FprNum) (fs : FprNum) (cc : BitVec 3) :
    Statement (.fpCUnS ft fs cc) := by
  change packR 0b010001#6 0b10000#5 ft fs (packCmpCc cc) 0b110001#6 &&& 0xFFE000FF#32 = 0x46000031#32
  simp; rfl
theorem fpCUnD (ft : FprNum) (fs : FprNum) (cc : BitVec 3) :
    Statement (.fpCUnD ft fs cc) := by
  change packR 0b010001#6 0b10001#5 ft fs (packCmpCc cc) 0b110001#6 &&& 0xFFE000FF#32 = 0x46200031#32
  simp; rfl
theorem fpCEqS (ft : FprNum) (fs : FprNum) (cc : BitVec 3) :
    Statement (.fpCEqS ft fs cc) := by
  change packR 0b010001#6 0b10000#5 ft fs (packCmpCc cc) 0b110010#6 &&& 0xFFE000FF#32 = 0x46000032#32
  simp; rfl
theorem fpCEqD (ft : FprNum) (fs : FprNum) (cc : BitVec 3) :
    Statement (.fpCEqD ft fs cc) := by
  change packR 0b010001#6 0b10001#5 ft fs (packCmpCc cc) 0b110010#6 &&& 0xFFE000FF#32 = 0x46200032#32
  simp; rfl
theorem fpCUeqS (ft : FprNum) (fs : FprNum) (cc : BitVec 3) :
    Statement (.fpCUeqS ft fs cc) := by
  change packR 0b010001#6 0b10000#5 ft fs (packCmpCc cc) 0b110011#6 &&& 0xFFE000FF#32 = 0x46000033#32
  simp; rfl
theorem fpCUeqD (ft : FprNum) (fs : FprNum) (cc : BitVec 3) :
    Statement (.fpCUeqD ft fs cc) := by
  change packR 0b010001#6 0b10001#5 ft fs (packCmpCc cc) 0b110011#6 &&& 0xFFE000FF#32 = 0x46200033#32
  simp; rfl
theorem fpCOltS (ft : FprNum) (fs : FprNum) (cc : BitVec 3) :
    Statement (.fpCOltS ft fs cc) := by
  change packR 0b010001#6 0b10000#5 ft fs (packCmpCc cc) 0b110100#6 &&& 0xFFE000FF#32 = 0x46000034#32
  simp; rfl
theorem fpCOltD (ft : FprNum) (fs : FprNum) (cc : BitVec 3) :
    Statement (.fpCOltD ft fs cc) := by
  change packR 0b010001#6 0b10001#5 ft fs (packCmpCc cc) 0b110100#6 &&& 0xFFE000FF#32 = 0x46200034#32
  simp; rfl
theorem fpCUltS (ft : FprNum) (fs : FprNum) (cc : BitVec 3) :
    Statement (.fpCUltS ft fs cc) := by
  change packR 0b010001#6 0b10000#5 ft fs (packCmpCc cc) 0b110101#6 &&& 0xFFE000FF#32 = 0x46000035#32
  simp; rfl
theorem fpCUltD (ft : FprNum) (fs : FprNum) (cc : BitVec 3) :
    Statement (.fpCUltD ft fs cc) := by
  change packR 0b010001#6 0b10001#5 ft fs (packCmpCc cc) 0b110101#6 &&& 0xFFE000FF#32 = 0x46200035#32
  simp; rfl
theorem fpCOleS (ft : FprNum) (fs : FprNum) (cc : BitVec 3) :
    Statement (.fpCOleS ft fs cc) := by
  change packR 0b010001#6 0b10000#5 ft fs (packCmpCc cc) 0b110110#6 &&& 0xFFE000FF#32 = 0x46000036#32
  simp; rfl
theorem fpCOleD (ft : FprNum) (fs : FprNum) (cc : BitVec 3) :
    Statement (.fpCOleD ft fs cc) := by
  change packR 0b010001#6 0b10001#5 ft fs (packCmpCc cc) 0b110110#6 &&& 0xFFE000FF#32 = 0x46200036#32
  simp; rfl
theorem fpCUleS (ft : FprNum) (fs : FprNum) (cc : BitVec 3) :
    Statement (.fpCUleS ft fs cc) := by
  change packR 0b010001#6 0b10000#5 ft fs (packCmpCc cc) 0b110111#6 &&& 0xFFE000FF#32 = 0x46000037#32
  simp; rfl
theorem fpCUleD (ft : FprNum) (fs : FprNum) (cc : BitVec 3) :
    Statement (.fpCUleD ft fs cc) := by
  change packR 0b010001#6 0b10001#5 ft fs (packCmpCc cc) 0b110111#6 &&& 0xFFE000FF#32 = 0x46200037#32
  simp; rfl
theorem fpCSfS (ft : FprNum) (fs : FprNum) (cc : BitVec 3) :
    Statement (.fpCSfS ft fs cc) := by
  change packR 0b010001#6 0b10000#5 ft fs (packCmpCc cc) 0b111000#6 &&& 0xFFE000FF#32 = 0x46000038#32
  simp; rfl
theorem fpCSfD (ft : FprNum) (fs : FprNum) (cc : BitVec 3) :
    Statement (.fpCSfD ft fs cc) := by
  change packR 0b010001#6 0b10001#5 ft fs (packCmpCc cc) 0b111000#6 &&& 0xFFE000FF#32 = 0x46200038#32
  simp; rfl
theorem fpCNgleS (ft : FprNum) (fs : FprNum) (cc : BitVec 3) :
    Statement (.fpCNgleS ft fs cc) := by
  change packR 0b010001#6 0b10000#5 ft fs (packCmpCc cc) 0b111001#6 &&& 0xFFE000FF#32 = 0x46000039#32
  simp; rfl
theorem fpCNgleD (ft : FprNum) (fs : FprNum) (cc : BitVec 3) :
    Statement (.fpCNgleD ft fs cc) := by
  change packR 0b010001#6 0b10001#5 ft fs (packCmpCc cc) 0b111001#6 &&& 0xFFE000FF#32 = 0x46200039#32
  simp; rfl
theorem fpCSeqS (ft : FprNum) (fs : FprNum) (cc : BitVec 3) :
    Statement (.fpCSeqS ft fs cc) := by
  change packR 0b010001#6 0b10000#5 ft fs (packCmpCc cc) 0b111010#6 &&& 0xFFE000FF#32 = 0x4600003A#32
  simp; rfl
theorem fpCSeqD (ft : FprNum) (fs : FprNum) (cc : BitVec 3) :
    Statement (.fpCSeqD ft fs cc) := by
  change packR 0b010001#6 0b10001#5 ft fs (packCmpCc cc) 0b111010#6 &&& 0xFFE000FF#32 = 0x4620003A#32
  simp; rfl
theorem fpCNglS (ft : FprNum) (fs : FprNum) (cc : BitVec 3) :
    Statement (.fpCNglS ft fs cc) := by
  change packR 0b010001#6 0b10000#5 ft fs (packCmpCc cc) 0b111011#6 &&& 0xFFE000FF#32 = 0x4600003B#32
  simp; rfl
theorem fpCNglD (ft : FprNum) (fs : FprNum) (cc : BitVec 3) :
    Statement (.fpCNglD ft fs cc) := by
  change packR 0b010001#6 0b10001#5 ft fs (packCmpCc cc) 0b111011#6 &&& 0xFFE000FF#32 = 0x4620003B#32
  simp; rfl
theorem fpCLtS (ft : FprNum) (fs : FprNum) (cc : BitVec 3) :
    Statement (.fpCLtS ft fs cc) := by
  change packR 0b010001#6 0b10000#5 ft fs (packCmpCc cc) 0b111100#6 &&& 0xFFE000FF#32 = 0x4600003C#32
  simp; rfl
theorem fpCLtD (ft : FprNum) (fs : FprNum) (cc : BitVec 3) :
    Statement (.fpCLtD ft fs cc) := by
  change packR 0b010001#6 0b10001#5 ft fs (packCmpCc cc) 0b111100#6 &&& 0xFFE000FF#32 = 0x4620003C#32
  simp; rfl
theorem fpCNgeS (ft : FprNum) (fs : FprNum) (cc : BitVec 3) :
    Statement (.fpCNgeS ft fs cc) := by
  change packR 0b010001#6 0b10000#5 ft fs (packCmpCc cc) 0b111101#6 &&& 0xFFE000FF#32 = 0x4600003D#32
  simp; rfl
theorem fpCNgeD (ft : FprNum) (fs : FprNum) (cc : BitVec 3) :
    Statement (.fpCNgeD ft fs cc) := by
  change packR 0b010001#6 0b10001#5 ft fs (packCmpCc cc) 0b111101#6 &&& 0xFFE000FF#32 = 0x4620003D#32
  simp; rfl
theorem fpCLeS (ft : FprNum) (fs : FprNum) (cc : BitVec 3) :
    Statement (.fpCLeS ft fs cc) := by
  change packR 0b010001#6 0b10000#5 ft fs (packCmpCc cc) 0b111110#6 &&& 0xFFE000FF#32 = 0x4600003E#32
  simp; rfl
theorem fpCLeD (ft : FprNum) (fs : FprNum) (cc : BitVec 3) :
    Statement (.fpCLeD ft fs cc) := by
  change packR 0b010001#6 0b10001#5 ft fs (packCmpCc cc) 0b111110#6 &&& 0xFFE000FF#32 = 0x4620003E#32
  simp; rfl
theorem fpCNgtS (ft : FprNum) (fs : FprNum) (cc : BitVec 3) :
    Statement (.fpCNgtS ft fs cc) := by
  change packR 0b010001#6 0b10000#5 ft fs (packCmpCc cc) 0b111111#6 &&& 0xFFE000FF#32 = 0x4600003F#32
  simp; rfl
theorem fpCNgtD (ft : FprNum) (fs : FprNum) (cc : BitVec 3) :
    Statement (.fpCNgtD ft fs cc) := by
  change packR 0b010001#6 0b10001#5 ft fs (packCmpCc cc) 0b111111#6 &&& 0xFFE000FF#32 = 0x4620003F#32
  simp; rfl
theorem lwxc1 (base : RegNum) (index : RegNum) (fd : FprNum) :
    Statement (.lwxc1 base index fd) := by
  change packR 0b010011#6 base index 0b00000#5 fd 0b000000#6 &&& 0xFC00003F#32 = 0x4C000000#32
  simp; rfl
theorem ldxc1 (base : RegNum) (index : RegNum) (fd : FprNum) :
    Statement (.ldxc1 base index fd) := by
  change packR 0b010011#6 base index 0b00000#5 fd 0b000001#6 &&& 0xFC00003F#32 = 0x4C000001#32
  simp; rfl
theorem luxc1 (base : RegNum) (index : RegNum) (fd : FprNum) :
    Statement (.luxc1 base index fd) := by
  change packR 0b010011#6 base index 0b00000#5 fd 0b000101#6 &&& 0xFC00003F#32 = 0x4C000005#32
  simp; rfl
theorem swxc1 (base : RegNum) (index : RegNum) (fs : FprNum) :
    Statement (.swxc1 base index fs) := by
  change packR 0b010011#6 base index fs 0b00000#5 0b001000#6 &&& 0xFC00003F#32 = 0x4C000008#32
  simp; rfl
theorem sdxc1 (base : RegNum) (index : RegNum) (fs : FprNum) :
    Statement (.sdxc1 base index fs) := by
  change packR 0b010011#6 base index fs 0b00000#5 0b001001#6 &&& 0xFC00003F#32 = 0x4C000009#32
  simp; rfl
theorem suxc1 (base : RegNum) (index : RegNum) (fs : FprNum) :
    Statement (.suxc1 base index fs) := by
  change packR 0b010011#6 base index fs 0b00000#5 0b001101#6 &&& 0xFC00003F#32 = 0x4C00000D#32
  simp; rfl
theorem prefx (base : RegNum) (index : RegNum) (hint : BitVec 5) :
    Statement (.prefx base index hint) := by
  change packR 0b010011#6 base index hint 0b00000#5 0b001111#6 &&& 0xFC00003F#32 = 0x4C00000F#32
  simp; rfl
theorem fpMaddS (fr : FprNum) (ft : FprNum) (fs : FprNum) (fd : FprNum) :
    Statement (.fpMaddS fr ft fs fd) := by
  change packR 0b010011#6 fr ft fs fd 0b100000#6 &&& 0xFC00003F#32 = 0x4C000020#32
  simp; rfl
theorem fpMaddD (fr : FprNum) (ft : FprNum) (fs : FprNum) (fd : FprNum) :
    Statement (.fpMaddD fr ft fs fd) := by
  change packR 0b010011#6 fr ft fs fd 0b100001#6 &&& 0xFC00003F#32 = 0x4C000021#32
  simp; rfl
theorem fpMsubS (fr : FprNum) (ft : FprNum) (fs : FprNum) (fd : FprNum) :
    Statement (.fpMsubS fr ft fs fd) := by
  change packR 0b010011#6 fr ft fs fd 0b101000#6 &&& 0xFC00003F#32 = 0x4C000028#32
  simp; rfl
theorem fpMsubD (fr : FprNum) (ft : FprNum) (fs : FprNum) (fd : FprNum) :
    Statement (.fpMsubD fr ft fs fd) := by
  change packR 0b010011#6 fr ft fs fd 0b101001#6 &&& 0xFC00003F#32 = 0x4C000029#32
  simp; rfl
theorem fpNmaddS (fr : FprNum) (ft : FprNum) (fs : FprNum) (fd : FprNum) :
    Statement (.fpNmaddS fr ft fs fd) := by
  change packR 0b010011#6 fr ft fs fd 0b110000#6 &&& 0xFC00003F#32 = 0x4C000030#32
  simp; rfl
theorem fpNmaddD (fr : FprNum) (ft : FprNum) (fs : FprNum) (fd : FprNum) :
    Statement (.fpNmaddD fr ft fs fd) := by
  change packR 0b010011#6 fr ft fs fd 0b110001#6 &&& 0xFC00003F#32 = 0x4C000031#32
  simp; rfl
theorem fpNmsubS (fr : FprNum) (ft : FprNum) (fs : FprNum) (fd : FprNum) :
    Statement (.fpNmsubS fr ft fs fd) := by
  change packR 0b010011#6 fr ft fs fd 0b111000#6 &&& 0xFC00003F#32 = 0x4C000038#32
  simp; rfl
theorem fpNmsubD (fr : FprNum) (ft : FprNum) (fs : FprNum) (fd : FprNum) :
    Statement (.fpNmsubD fr ft fs fd) := by
  change packR 0b010011#6 fr ft fs fd 0b111001#6 &&& 0xFC00003F#32 = 0x4C000039#32
  simp; rfl

end Encodes

end Sys2Proof.Laws
end

