-- ==== Sys2Proof/Tests/Slice0.lean ====
section
/-! SUPPORT. Tests: ill-formed terms, the words of every row of the opcode table, single steps whose results the spec
states (95_test_vectors.md) or that are worked out by hand from its rules, and for every obligation with hypotheses a
state and operands that meet them. -/

open Sys2Proof Sys2Proof.Machine

namespace Sys2Proof.Tests

set_option Elab.async false

/-! ## Small states -/

/-- Status in kernel mode with the FPU usable and 32 full floating-point registers. -/
def kernelStatus : Status := { Status.reset with erl := false, bev := false, cu1 := true, fr := true }

/-- A machine in kernel mode that runs in kseg0. -/
def kern : State :=
  { State.reset with
    pc := 0xFFFFFFFF80001000, npc := 0xFFFFFFFF80001004, cp0 := { Cp0.reset with status := kernelStatus } }

/-- The same with another Status. -/
def withStatus (st : Status) : State := kern.setStatus st

/-- User mode, 32-bit, no MIPS IV. -/
def userStatus : Status := { kernelStatus with ksu := 2, cu1 := false }

/-- With the big-endian byte order. -/
def big (s : State) : State := { s with pins := { s.pins with bigEndian := true } }

/-- With general registers. -/
def gp (l : List (RegNum × Dword)) (s : State) : State := l.foldl (fun s p => s.setReg p.1 p.2) s

/-- With bytes of memory. -/
def bytes (a : Nat) (l : List Byte) (s : State) : State := { s with mem := Memory.writeBytes s.mem a l }

/-- With HI and LO. -/
def hl (hi lo : Dword) (s : State) : State := s.setHiLo hi lo

/-- With floating-point registers. -/
def fpw (l : List (FprNum × Dword)) (s : State) : State := l.foldl (fun s p => s.setFp p.1 (.ofDword p.2)) s

/-- With FCR31. -/
def fcr (w : Word) (s : State) : State := s.setFcr31 (.ofWord w)

/-- With inputs. -/
def inp (f : Inputs → Inputs) (s : State) : State := { s with inputs := f s.inputs }

/-- In a delay slot. -/
def slot (s : State) : State := { s with inDelay := true }

/-- Something of the next state. -/
def got {α : Type} (f : State → α) (r : Result) : Option α := match r with | .next t => some (f t) | _ => none

theorem next_of_got {α : Type} {f : State → α} {r : Result} {v : α} (h : got f r = some v) :
    ∃ t, r = .next t ∧ f t = v := by
  cases r with
  | next t => exact ⟨t, rfl, Option.some.inj h⟩
  | fault _ => cases h
  | refused _ => cases h

def regOf (i : RegNum) (r : Result) : Option Dword := got (·.reg i) r
def hiLoOf (r : Result) : Option (Dword × Dword) := got (fun t => (t.hi, t.lo)) r
def excOf (r : Result) : Option (BitVec 5) :=
  (got (fun t => if t.raised then some t.cp0.cause.excCode else none) r).join
def memOf (a n : Nat) (r : Result) : Option (List Byte) := got (fun t => Memory.readBytes t.mem a n) r
def fOf (i : FprNum) (r : Result) : Option (Word × Word) := got (fun t => ((t.fp i).lo, t.fcr31.toWord)) r
def dOf (i : FprNum) (r : Result) : Option (Dword × Word) := got (fun t => ((t.fp i).toDword, t.fcr31.toWord)) r
def pcs (r : Result) : Option (Dword × Dword × Bool) := got (fun t => (t.pc, t.npc, t.inDelay)) r

/-! ## Ill-formed terms are refused -/

theorem test_sll_ssnop_ill_formed : (Instr.sll 0 0 1).wellFormed = false := by decide
theorem test_mfc0_perf_ill_formed : (Instr.mfc0 2 25).wellFormed = false := by decide
theorem test_mtc0_perf_ill_formed : (Instr.mtc0 2 25).wellFormed = false := by decide
theorem test_well_formed :
    (Instr.sll 0 0 2).wellFormed = true ∧ (Instr.mfc0 2 24).wellFormed = true ∧
      (Instr.mtc0 2 26).wellFormed = true ∧ Instr.ssnop.wellFormed = true := by decide

/-! ## Words of no instruction -/

theorem test_reserved_special : decode 0x00000005 = .error .reserved := by decide +kernel
theorem test_reserved_major : decode 0x78000000 = .error .reserved := by decide +kernel
theorem test_reserved_cop1 : decode 0x46A00000 = .error .cop1Unimplemented := by decide +kernel
/-- Bits 7:6 of a compare distinguish no two instructions and are not decoded (30_encoding.md rule R206). -/
theorem test_compare_bits : decode 0x460200F0 = .ok (.fpCFS 2 0 0) := by decide +kernel
theorem test_cop2 : decode 0x48000000 = .error .cop2 := by decide +kernel


/-! ## A word of every row of the opcode table, its fields filled with distinct values -/

theorem test_words_addi_to_sh :
    decode 0x20768005 = .ok (.addi 3 22 0x8005) ∧
    decode 0x24768005 = .ok (.addiu 3 22 0x8005) ∧
    decode 0x28768005 = .ok (.slti 3 22 0x8005) ∧
    decode 0x2C768005 = .ok (.sltiu 3 22 0x8005) ∧
    decode 0x30768005 = .ok (.andi 3 22 0x8005) ∧
    decode 0x34768005 = .ok (.ori 3 22 0x8005) ∧
    decode 0x38768005 = .ok (.xori 3 22 0x8005) ∧
    decode 0x60768005 = .ok (.daddi 3 22 0x8005) ∧
    decode 0x64768005 = .ok (.daddiu 3 22 0x8005) ∧
    decode 0x3C038005 = .ok (.lui 3 0x8005) ∧
    decode 0x80768005 = .ok (.lb 3 22 0x8005) ∧
    decode 0x84768005 = .ok (.lh 3 22 0x8005) ∧
    decode 0x88768005 = .ok (.lwl 3 22 0x8005) ∧
    decode 0x8C768005 = .ok (.lw 3 22 0x8005) ∧
    decode 0x90768005 = .ok (.lbu 3 22 0x8005) ∧
    decode 0x94768005 = .ok (.lhu 3 22 0x8005) ∧
    decode 0x98768005 = .ok (.lwr 3 22 0x8005) ∧
    decode 0x9C768005 = .ok (.lwu 3 22 0x8005) ∧
    decode 0xA0768005 = .ok (.sb 3 22 0x8005) ∧
    decode 0xA4768005 = .ok (.sh 3 22 0x8005) := by decide +kernel
theorem test_words_swl_to_beq :
    decode 0xA8768005 = .ok (.swl 3 22 0x8005) ∧
    decode 0xAC768005 = .ok (.sw 3 22 0x8005) ∧
    decode 0xB0768005 = .ok (.sdl 3 22 0x8005) ∧
    decode 0xB4768005 = .ok (.sdr 3 22 0x8005) ∧
    decode 0xB8768005 = .ok (.swr 3 22 0x8005) ∧
    decode 0x68768005 = .ok (.ldl 3 22 0x8005) ∧
    decode 0x6C768005 = .ok (.ldr 3 22 0x8005) ∧
    decode 0xC0768005 = .ok (.ll 3 22 0x8005) ∧
    decode 0xD0768005 = .ok (.lld 3 22 0x8005) ∧
    decode 0xDC768005 = .ok (.ld 3 22 0x8005) ∧
    decode 0xE0768005 = .ok (.sc 3 22 0x8005) ∧
    decode 0xF0768005 = .ok (.scd 3 22 0x8005) ∧
    decode 0xFC768005 = .ok (.sd 3 22 0x8005) ∧
    decode 0xBC768005 = .ok (.cache 3 22 0x8005) ∧
    decode 0xCC768005 = .ok (.pref 3 22 0x8005) ∧
    decode 0xC4768005 = .ok (.lwc1 3 22 0x8005) ∧
    decode 0xD4768005 = .ok (.ldc1 3 22 0x8005) ∧
    decode 0xE4768005 = .ok (.swc1 3 22 0x8005) ∧
    decode 0xF4768005 = .ok (.sdc1 3 22 0x8005) ∧
    decode 0x10768005 = .ok (.beq 3 22 0x8005) := by decide +kernel
theorem test_words_bne_to_teqi :
    decode 0x14768005 = .ok (.bne 3 22 0x8005) ∧
    decode 0x50768005 = .ok (.beql 3 22 0x8005) ∧
    decode 0x54768005 = .ok (.bnel 3 22 0x8005) ∧
    decode 0x18608005 = .ok (.blez 3 0x8005) ∧
    decode 0x1C608005 = .ok (.bgtz 3 0x8005) ∧
    decode 0x58608005 = .ok (.blezl 3 0x8005) ∧
    decode 0x5C608005 = .ok (.bgtzl 3 0x8005) ∧
    decode 0x04608005 = .ok (.bltz 3 0x8005) ∧
    decode 0x04618005 = .ok (.bgez 3 0x8005) ∧
    decode 0x04628005 = .ok (.bltzl 3 0x8005) ∧
    decode 0x04638005 = .ok (.bgezl 3 0x8005) ∧
    decode 0x04708005 = .ok (.bltzal 3 0x8005) ∧
    decode 0x04718005 = .ok (.bgezal 3 0x8005) ∧
    decode 0x04728005 = .ok (.bltzall 3 0x8005) ∧
    decode 0x04738005 = .ok (.bgezall 3 0x8005) ∧
    decode 0x04688005 = .ok (.tgei 3 0x8005) ∧
    decode 0x04698005 = .ok (.tgeiu 3 0x8005) ∧
    decode 0x046A8005 = .ok (.tlti 3 0x8005) ∧
    decode 0x046B8005 = .ok (.tltiu 3 0x8005) ∧
    decode 0x046C8005 = .ok (.teqi 3 0x8005) := by decide +kernel
theorem test_words_tnei_to_sllv :
    decode 0x046E8005 = .ok (.tnei 3 0x8005) ∧
    decode 0x0A001234 = .ok (.j 0x2001234) ∧
    decode 0x0E001234 = .ok (.jal 0x2001234) ∧
    decode 0x00764820 = .ok (.add 3 22 9) ∧
    decode 0x00764821 = .ok (.addu 3 22 9) ∧
    decode 0x00764822 = .ok (.sub 3 22 9) ∧
    decode 0x00764823 = .ok (.subu 3 22 9) ∧
    decode 0x00764824 = .ok (.and 3 22 9) ∧
    decode 0x00764825 = .ok (.or 3 22 9) ∧
    decode 0x00764826 = .ok (.xor 3 22 9) ∧
    decode 0x00764827 = .ok (.nor 3 22 9) ∧
    decode 0x0076482A = .ok (.slt 3 22 9) ∧
    decode 0x0076482B = .ok (.sltu 3 22 9) ∧
    decode 0x0076482C = .ok (.dadd 3 22 9) ∧
    decode 0x0076482D = .ok (.daddu 3 22 9) ∧
    decode 0x0076482E = .ok (.dsub 3 22 9) ∧
    decode 0x0076482F = .ok (.dsubu 3 22 9) ∧
    decode 0x0076480A = .ok (.movz 3 22 9) ∧
    decode 0x0076480B = .ok (.movn 3 22 9) ∧
    decode 0x00764804 = .ok (.sllv 3 22 9) := by decide +kernel
theorem test_words_srav_to_dror32 :
    decode 0x00764807 = .ok (.srav 3 22 9) ∧
    decode 0x00764814 = .ok (.dsllv 3 22 9) ∧
    decode 0x00764817 = .ok (.dsrav 3 22 9) ∧
    decode 0x00764806 = .ok (.srlv 3 22 9) ∧
    decode 0x00764846 = .ok (.rorv 3 22 9) ∧
    decode 0x00764816 = .ok (.dsrlv 3 22 9) ∧
    decode 0x00764856 = .ok (.drorv 3 22 9) ∧
    decode 0x00000040 = .ok (.ssnop) ∧
    decode 0x0003B240 = .ok (.sll 3 22 9) ∧
    decode 0x0003B243 = .ok (.sra 3 22 9) ∧
    decode 0x0003B278 = .ok (.dsll 3 22 9) ∧
    decode 0x0003B27B = .ok (.dsra 3 22 9) ∧
    decode 0x0003B27C = .ok (.dsll32 3 22 9) ∧
    decode 0x0003B27F = .ok (.dsra32 3 22 9) ∧
    decode 0x0003B242 = .ok (.srl 3 22 9) ∧
    decode 0x0023B242 = .ok (.ror 3 22 9) ∧
    decode 0x0003B27A = .ok (.dsrl 3 22 9) ∧
    decode 0x0023B27A = .ok (.dror 3 22 9) ∧
    decode 0x0003B27E = .ok (.dsrl32 3 22 9) ∧
    decode 0x0023B27E = .ok (.dror32 3 22 9) := by decide +kernel
theorem test_words_movf_to_mul :
    decode 0x00744801 = .ok (.movf 3 5 9) ∧
    decode 0x00754801 = .ok (.movt 3 5 9) ∧
    decode 0x00600008 = .ok (.jr 3) ∧
    decode 0x0060B009 = .ok (.jalr 3 22) ∧
    decode 0x02048D0C = .ok (.syscall 0x81234) ∧
    decode 0x02048D0D = .ok (.breakpoint 0x81234) ∧
    decode 0x000000CF = .ok (.sync 3) ∧
    decode 0x00001810 = .ok (.mfhi 3) ∧
    decode 0x00600011 = .ok (.mthi 3) ∧
    decode 0x00001812 = .ok (.mflo 3) ∧
    decode 0x00600013 = .ok (.mtlo 3) ∧
    decode 0x00760018 = .ok (.mult 3 22) ∧
    decode 0x00760019 = .ok (.multu 3 22) ∧
    decode 0x0076001A = .ok (.div 3 22) ∧
    decode 0x0076001B = .ok (.divu 3 22) ∧
    decode 0x0076001C = .ok (.dmult 3 22) ∧
    decode 0x0076001D = .ok (.dmultu 3 22) ∧
    decode 0x0076001E = .ok (.ddiv 3 22) ∧
    decode 0x0076001F = .ok (.ddivu 3 22) ∧
    decode 0x00764858 = .ok (.mul 3 22 9) := by decide +kernel
theorem test_words_mulu_to_teq :
    decode 0x00764859 = .ok (.mulu 3 22 9) ∧
    decode 0x007648D8 = .ok (.muls 3 22 9) ∧
    decode 0x007648D9 = .ok (.mulsu 3 22 9) ∧
    decode 0x00764958 = .ok (.macc 3 22 9) ∧
    decode 0x00764959 = .ok (.maccu 3 22 9) ∧
    decode 0x007649D8 = .ok (.msac 3 22 9) ∧
    decode 0x007649D9 = .ok (.msacu 3 22 9) ∧
    decode 0x00764A58 = .ok (.mulhi 3 22 9) ∧
    decode 0x00764A59 = .ok (.mulhiu 3 22 9) ∧
    decode 0x00764AD8 = .ok (.mulshi 3 22 9) ∧
    decode 0x00764AD9 = .ok (.mulshiu 3 22 9) ∧
    decode 0x00764B58 = .ok (.macchi 3 22 9) ∧
    decode 0x00764B59 = .ok (.macchiu 3 22 9) ∧
    decode 0x00764BD8 = .ok (.msachi 3 22 9) ∧
    decode 0x00764BD9 = .ok (.msachiu 3 22 9) ∧
    decode 0x0076AC70 = .ok (.tge 3 22 0x2b1) ∧
    decode 0x0076AC71 = .ok (.tgeu 3 22 0x2b1) ∧
    decode 0x0076AC72 = .ok (.tlt 3 22 0x2b1) ∧
    decode 0x0076AC73 = .ok (.tltu 3 22 0x2b1) ∧
    decode 0x0076AC74 = .ok (.teq 3 22 0x2b1) := by decide +kernel
theorem test_words_tne_to_bc0t :
    decode 0x0076AC76 = .ok (.tne 3 22 0x2b1) ∧
    decode 0x70760000 = .ok (.madd 3 22) ∧
    decode 0x70760001 = .ok (.maddu 3 22) ∧
    decode 0x70760004 = .ok (.msub 3 22) ∧
    decode 0x70760005 = .ok (.msubu 3 22) ∧
    decode 0x70764802 = .ok (.mul64 3 22 9) ∧
    decode 0x7060B020 = .ok (.clz 3 22) ∧
    decode 0x7060B021 = .ok (.clo 3 22) ∧
    decode 0x7060B024 = .ok (.dclz 3 22) ∧
    decode 0x7060B025 = .ok (.dclo 3 22) ∧
    decode 0x4003C82D = .ok (.mfpc 3 22) ∧
    decode 0x4003C82C = .ok (.mfps 3 22) ∧
    decode 0x4083C82D = .ok (.mtpc 3 22) ∧
    decode 0x4083C82C = .ok (.mtps 3 22) ∧
    decode 0x4003B000 = .ok (.mfc0 3 22) ∧
    decode 0x4023B000 = .ok (.dmfc0 3 22) ∧
    decode 0x4083B000 = .ok (.mtc0 3 22) ∧
    decode 0x40A3B000 = .ok (.dmtc0 3 22) ∧
    decode 0x41008005 = .ok (.bc0f 0x8005) ∧
    decode 0x41018005 = .ok (.bc0t 0x8005) := by decide +kernel
theorem test_words_bc0fl_to_fpAddD :
    decode 0x41028005 = .ok (.bc0fl 0x8005) ∧
    decode 0x41038005 = .ok (.bc0tl 0x8005) ∧
    decode 0x42000001 = .ok (.tlbr) ∧
    decode 0x42000002 = .ok (.tlbwi) ∧
    decode 0x42000006 = .ok (.tlbwr) ∧
    decode 0x42000008 = .ok (.tlbp) ∧
    decode 0x42000018 = .ok (.eret) ∧
    decode 0x4248D160 = .ok (.wait 0x12345) ∧
    decode 0x4403B000 = .ok (.mfc1 3 22) ∧
    decode 0x4423B000 = .ok (.dmfc1 3 22) ∧
    decode 0x4443B000 = .ok (.cfc1 3 22) ∧
    decode 0x4483B000 = .ok (.mtc1 3 22) ∧
    decode 0x44A3B000 = .ok (.dmtc1 3 22) ∧
    decode 0x44C3B000 = .ok (.ctc1 3 22) ∧
    decode 0x45148005 = .ok (.bc1f 5 0x8005) ∧
    decode 0x45158005 = .ok (.bc1t 5 0x8005) ∧
    decode 0x45168005 = .ok (.bc1fl 5 0x8005) ∧
    decode 0x45178005 = .ok (.bc1tl 5 0x8005) ∧
    decode 0x4603B240 = .ok (.fpAddS 3 22 9) ∧
    decode 0x4623B240 = .ok (.fpAddD 3 22 9) := by decide +kernel
theorem test_words_fpSubS_to_fpCeilLD :
    decode 0x4603B241 = .ok (.fpSubS 3 22 9) ∧
    decode 0x4623B241 = .ok (.fpSubD 3 22 9) ∧
    decode 0x4603B242 = .ok (.fpMulS 3 22 9) ∧
    decode 0x4623B242 = .ok (.fpMulD 3 22 9) ∧
    decode 0x4603B243 = .ok (.fpDivS 3 22 9) ∧
    decode 0x4623B243 = .ok (.fpDivD 3 22 9) ∧
    decode 0x46001D84 = .ok (.fpSqrtS 3 22) ∧
    decode 0x46201D84 = .ok (.fpSqrtD 3 22) ∧
    decode 0x46001D85 = .ok (.fpAbsS 3 22) ∧
    decode 0x46201D85 = .ok (.fpAbsD 3 22) ∧
    decode 0x46001D86 = .ok (.fpMovS 3 22) ∧
    decode 0x46201D86 = .ok (.fpMovD 3 22) ∧
    decode 0x46001D87 = .ok (.fpNegS 3 22) ∧
    decode 0x46201D87 = .ok (.fpNegD 3 22) ∧
    decode 0x46001D88 = .ok (.fpRoundLS 3 22) ∧
    decode 0x46201D88 = .ok (.fpRoundLD 3 22) ∧
    decode 0x46001D89 = .ok (.fpTruncLS 3 22) ∧
    decode 0x46201D89 = .ok (.fpTruncLD 3 22) ∧
    decode 0x46001D8A = .ok (.fpCeilLS 3 22) ∧
    decode 0x46201D8A = .ok (.fpCeilLD 3 22) := by decide +kernel
theorem test_words_fpFloorLS_to_fpCvtSW :
    decode 0x46001D8B = .ok (.fpFloorLS 3 22) ∧
    decode 0x46201D8B = .ok (.fpFloorLD 3 22) ∧
    decode 0x46001D8C = .ok (.fpRoundWS 3 22) ∧
    decode 0x46201D8C = .ok (.fpRoundWD 3 22) ∧
    decode 0x46001D8D = .ok (.fpTruncWS 3 22) ∧
    decode 0x46201D8D = .ok (.fpTruncWD 3 22) ∧
    decode 0x46001D8E = .ok (.fpCeilWS 3 22) ∧
    decode 0x46201D8E = .ok (.fpCeilWD 3 22) ∧
    decode 0x46001D8F = .ok (.fpFloorWS 3 22) ∧
    decode 0x46201D8F = .ok (.fpFloorWD 3 22) ∧
    decode 0x46001D95 = .ok (.fpRecipS 3 22) ∧
    decode 0x46201D95 = .ok (.fpRecipD 3 22) ∧
    decode 0x46001D96 = .ok (.fpRsqrtS 3 22) ∧
    decode 0x46201D96 = .ok (.fpRsqrtD 3 22) ∧
    decode 0x46001DA4 = .ok (.fpCvtWS 3 22) ∧
    decode 0x46201DA4 = .ok (.fpCvtWD 3 22) ∧
    decode 0x46001DA5 = .ok (.fpCvtLS 3 22) ∧
    decode 0x46201DA5 = .ok (.fpCvtLD 3 22) ∧
    decode 0x46201DA0 = .ok (.fpCvtSD 3 22) ∧
    decode 0x46801DA0 = .ok (.fpCvtSW 3 22) := by decide +kernel
theorem test_words_fpCvtSL_to_fpCUeqD :
    decode 0x46A01DA0 = .ok (.fpCvtSL 3 22) ∧
    decode 0x46001DA1 = .ok (.fpCvtDS 3 22) ∧
    decode 0x46801DA1 = .ok (.fpCvtDW 3 22) ∧
    decode 0x46A01DA1 = .ok (.fpCvtDL 3 22) ∧
    decode 0x4614B251 = .ok (.fpMovfS 5 22 9) ∧
    decode 0x4634B251 = .ok (.fpMovfD 5 22 9) ∧
    decode 0x4615B251 = .ok (.fpMovtS 5 22 9) ∧
    decode 0x4635B251 = .ok (.fpMovtD 5 22 9) ∧
    decode 0x4603B252 = .ok (.fpMovzS 3 22 9) ∧
    decode 0x4623B252 = .ok (.fpMovzD 3 22 9) ∧
    decode 0x4603B253 = .ok (.fpMovnS 3 22 9) ∧
    decode 0x4623B253 = .ok (.fpMovnD 3 22 9) ∧
    decode 0x4603B530 = .ok (.fpCFS 3 22 5) ∧
    decode 0x4623B530 = .ok (.fpCFD 3 22 5) ∧
    decode 0x4603B531 = .ok (.fpCUnS 3 22 5) ∧
    decode 0x4623B531 = .ok (.fpCUnD 3 22 5) ∧
    decode 0x4603B532 = .ok (.fpCEqS 3 22 5) ∧
    decode 0x4623B532 = .ok (.fpCEqD 3 22 5) ∧
    decode 0x4603B533 = .ok (.fpCUeqS 3 22 5) ∧
    decode 0x4623B533 = .ok (.fpCUeqD 3 22 5) := by decide +kernel
theorem test_words_fpCOltS_to_fpCNgeD :
    decode 0x4603B534 = .ok (.fpCOltS 3 22 5) ∧
    decode 0x4623B534 = .ok (.fpCOltD 3 22 5) ∧
    decode 0x4603B535 = .ok (.fpCUltS 3 22 5) ∧
    decode 0x4623B535 = .ok (.fpCUltD 3 22 5) ∧
    decode 0x4603B536 = .ok (.fpCOleS 3 22 5) ∧
    decode 0x4623B536 = .ok (.fpCOleD 3 22 5) ∧
    decode 0x4603B537 = .ok (.fpCUleS 3 22 5) ∧
    decode 0x4623B537 = .ok (.fpCUleD 3 22 5) ∧
    decode 0x4603B538 = .ok (.fpCSfS 3 22 5) ∧
    decode 0x4623B538 = .ok (.fpCSfD 3 22 5) ∧
    decode 0x4603B539 = .ok (.fpCNgleS 3 22 5) ∧
    decode 0x4623B539 = .ok (.fpCNgleD 3 22 5) ∧
    decode 0x4603B53A = .ok (.fpCSeqS 3 22 5) ∧
    decode 0x4623B53A = .ok (.fpCSeqD 3 22 5) ∧
    decode 0x4603B53B = .ok (.fpCNglS 3 22 5) ∧
    decode 0x4623B53B = .ok (.fpCNglD 3 22 5) ∧
    decode 0x4603B53C = .ok (.fpCLtS 3 22 5) ∧
    decode 0x4623B53C = .ok (.fpCLtD 3 22 5) ∧
    decode 0x4603B53D = .ok (.fpCNgeS 3 22 5) ∧
    decode 0x4623B53D = .ok (.fpCNgeD 3 22 5) := by decide +kernel
theorem test_words_fpCLeS_to_fpNmsubD :
    decode 0x4603B53E = .ok (.fpCLeS 3 22 5) ∧
    decode 0x4623B53E = .ok (.fpCLeD 3 22 5) ∧
    decode 0x4603B53F = .ok (.fpCNgtS 3 22 5) ∧
    decode 0x4623B53F = .ok (.fpCNgtD 3 22 5) ∧
    decode 0x4C760240 = .ok (.lwxc1 3 22 9) ∧
    decode 0x4C760241 = .ok (.ldxc1 3 22 9) ∧
    decode 0x4C760245 = .ok (.luxc1 3 22 9) ∧
    decode 0x4C764808 = .ok (.swxc1 3 22 9) ∧
    decode 0x4C764809 = .ok (.sdxc1 3 22 9) ∧
    decode 0x4C76480D = .ok (.suxc1 3 22 9) ∧
    decode 0x4C76480F = .ok (.prefx 3 22 9) ∧
    decode 0x4C764F20 = .ok (.fpMaddS 3 22 9 28) ∧
    decode 0x4C764F21 = .ok (.fpMaddD 3 22 9 28) ∧
    decode 0x4C764F28 = .ok (.fpMsubS 3 22 9 28) ∧
    decode 0x4C764F29 = .ok (.fpMsubD 3 22 9 28) ∧
    decode 0x4C764F30 = .ok (.fpNmaddS 3 22 9 28) ∧
    decode 0x4C764F31 = .ok (.fpNmaddD 3 22 9 28) ∧
    decode 0x4C764F38 = .ok (.fpNmsubS 3 22 9 28) ∧
    decode 0x4C764F39 = .ok (.fpNmsubD 3 22 9 28) := by decide +kernel

/-! ## The vectors of 95_test_vectors.md, at most two for an instruction -/

/-- The items of the load and store vectors. -/
def itemA : List Byte := [0x80, 1, 2, 3, 4, 5, 6, 0xF7]
def itemB : List Byte := [0x10, 0x11, 0x12, 0x13, 0x14, 0x15, 0x16, 0x17]
def valueB : Dword := 0xA1A2A3A4A5A6A7A8

theorem test_lb :
    regOf 2 (exec (.lb 1 2 0) (gp [(1, 0xFFFFFFFF80002000)] (bytes 0x2000 itemA kern))) =
      some 0xFFFFFFFFFFFFFF80 ∧
    regOf 2 (exec (.lb 1 2 0) (big (gp [(1, 0xFFFFFFFF80002000)] (bytes 0x2000 itemA kern)))) =
      some 0xFFFFFFFFFFFFFF80 := by decide +kernel
theorem test_lbu :
    regOf 2 (exec (.lbu 1 2 0) (gp [(1, 0xFFFFFFFF80002000)] (bytes 0x2000 itemA kern))) =
      some 0x0000000000000080 ∧
    regOf 2 (exec (.lbu 1 2 0) (big (gp [(1, 0xFFFFFFFF80002000)] (bytes 0x2000 itemA kern)))) =
      some 0x0000000000000080 := by decide +kernel
theorem test_lh :
    regOf 2 (exec (.lh 1 2 0) (gp [(1, 0xFFFFFFFF80002000)] (bytes 0x2000 itemA kern))) =
      some 0x0000000000000180 ∧
    regOf 2 (exec (.lh 1 2 0) (big (gp [(1, 0xFFFFFFFF80002000)] (bytes 0x2000 itemA kern)))) =
      some 0xFFFFFFFFFFFF8001 := by decide +kernel
theorem test_lhu :
    regOf 2 (exec (.lhu 1 2 0) (gp [(1, 0xFFFFFFFF80002000)] (bytes 0x2000 itemA kern))) =
      some 0x0000000000000180 ∧
    regOf 2 (exec (.lhu 1 2 0) (big (gp [(1, 0xFFFFFFFF80002000)] (bytes 0x2000 itemA kern)))) =
      some 0x0000000000008001 := by decide +kernel
theorem test_lw :
    regOf 2 (exec (.lw 1 2 0) (gp [(1, 0xFFFFFFFF80002000)] (bytes 0x2000 itemA kern))) =
      some 0x0000000003020180 ∧
    regOf 2 (exec (.lw 1 2 0) (big (gp [(1, 0xFFFFFFFF80002000)] (bytes 0x2000 itemA kern)))) =
      some 0xFFFFFFFF80010203 := by decide +kernel
theorem test_lwu :
    regOf 2 (exec (.lwu 1 2 0) (gp [(1, 0xFFFFFFFF80002000)] (bytes 0x2000 itemA kern))) =
      some 0x0000000003020180 ∧
    regOf 2 (exec (.lwu 1 2 0) (big (gp [(1, 0xFFFFFFFF80002000)] (bytes 0x2000 itemA kern)))) =
      some 0x0000000080010203 := by decide +kernel
theorem test_ld :
    regOf 2 (exec (.ld 1 2 0) (gp [(1, 0xFFFFFFFF80002000)] (bytes 0x2000 itemA kern))) =
      some 0xF706050403020180 ∧
    regOf 2 (exec (.ld 1 2 0) (big (gp [(1, 0xFFFFFFFF80002000)] (bytes 0x2000 itemA kern)))) =
      some 0x80010203040506F7 := by decide +kernel
theorem test_lwl :
    regOf 2 (exec (.lwl 1 2 2) (gp [(1, 0xFFFFFFFF80002000), (2, valueB)] (bytes 0x2000 itemB kern))) =
      some 0x00000000121110A8 ∧
    regOf 2 (exec (.lwl 1 2 5) (big (gp [(1, 0xFFFFFFFF80002000), (2, valueB)] (bytes 0x2000 itemB kern)))) =
      some 0x00000000151617A8 := by decide +kernel
theorem test_lwr :
    regOf 2 (exec (.lwr 1 2 2) (gp [(1, 0xFFFFFFFF80002000), (2, valueB)] (bytes 0x2000 itemB kern))) =
      some 0xFFFFFFFFA5A61312 ∧
    regOf 2 (exec (.lwr 1 2 5) (big (gp [(1, 0xFFFFFFFF80002000), (2, valueB)] (bytes 0x2000 itemB kern)))) =
      some 0xFFFFFFFFA5A61415 := by decide +kernel
theorem test_ldl :
    regOf 2 (exec (.ldl 1 2 2) (gp [(1, 0xFFFFFFFF80002000), (2, valueB)] (bytes 0x2000 itemB kern))) =
      some 0x121110A4A5A6A7A8 ∧
    regOf 2 (exec (.ldl 1 2 5) (big (gp [(1, 0xFFFFFFFF80002000), (2, valueB)] (bytes 0x2000 itemB kern)))) =
      some 0x151617A4A5A6A7A8 := by decide +kernel
theorem test_ldr :
    regOf 2 (exec (.ldr 1 2 2) (gp [(1, 0xFFFFFFFF80002000), (2, valueB)] (bytes 0x2000 itemB kern))) =
      some 0xA1A2171615141312 ∧
    regOf 2 (exec (.ldr 1 2 5) (big (gp [(1, 0xFFFFFFFF80002000), (2, valueB)] (bytes 0x2000 itemB kern)))) =
      some 0xA1A2101112131415 := by decide +kernel
theorem test_swl :
    memOf 0x2000 8 (exec (.swl 1 2 2) (gp [(1, 0xFFFFFFFF80002000), (2, valueB)] (bytes 0x2000 itemB kern))) =
      some [0xA7, 0xA6, 0xA5, 0x13, 0x14, 0x15, 0x16, 0x17] ∧
    memOf 0x2000 8 (exec (.swl 1 2 5) (big (gp [(1, 0xFFFFFFFF80002000), (2, valueB)] (bytes 0x2000 itemB kern)))) =
      some [0x10, 0x11, 0x12, 0x13, 0x14, 0xA5, 0xA6, 0xA7] := by decide +kernel
theorem test_swr :
    memOf 0x2000 8 (exec (.swr 1 2 2) (gp [(1, 0xFFFFFFFF80002000), (2, valueB)] (bytes 0x2000 itemB kern))) =
      some [0x10, 0x11, 0xA8, 0xA7, 0x14, 0x15, 0x16, 0x17] ∧
    memOf 0x2000 8 (exec (.swr 1 2 5) (big (gp [(1, 0xFFFFFFFF80002000), (2, valueB)] (bytes 0x2000 itemB kern)))) =
      some [0x10, 0x11, 0x12, 0x13, 0xA7, 0xA8, 0x16, 0x17] := by decide +kernel
theorem test_sdl :
    memOf 0x2000 8 (exec (.sdl 1 2 2) (gp [(1, 0xFFFFFFFF80002000), (2, valueB)] (bytes 0x2000 itemB kern))) =
      some [0xA3, 0xA2, 0xA1, 0x13, 0x14, 0x15, 0x16, 0x17] ∧
    memOf 0x2000 8 (exec (.sdl 1 2 5) (big (gp [(1, 0xFFFFFFFF80002000), (2, valueB)] (bytes 0x2000 itemB kern)))) =
      some [0x10, 0x11, 0x12, 0x13, 0x14, 0xA1, 0xA2, 0xA3] := by decide +kernel
theorem test_sdr :
    memOf 0x2000 8 (exec (.sdr 1 2 2) (gp [(1, 0xFFFFFFFF80002000), (2, valueB)] (bytes 0x2000 itemB kern))) =
      some [0x10, 0x11, 0xA8, 0xA7, 0xA6, 0xA5, 0xA4, 0xA3] ∧
    memOf 0x2000 8 (exec (.sdr 1 2 5) (big (gp [(1, 0xFFFFFFFF80002000), (2, valueB)] (bytes 0x2000 itemB kern)))) =
      some [0xA3, 0xA4, 0xA5, 0xA6, 0xA7, 0xA8, 0x16, 0x17] := by decide +kernel
theorem test_mult :
    hiLoOf (exec (.mult 1 2) (hl 0 0 (gp [(1, 0xFFFFFFFFFFFFFFFF), (2, 2)] kern))) =
      some (0xFFFFFFFFFFFFFFFF, 0xFFFFFFFFFFFFFFFE) ∧
    hiLoOf (exec (.mult 1 2) (hl 0 0 (gp [(1, 0xFFFFFFFF80000000), (2, 0xFFFFFFFF80000000)] kern))) =
      some (0x0000000040000000, 0) := by decide +kernel
theorem test_mul :
    hiLoOf (exec (.mul 1 2 3) (hl 1 2 (gp [(1, 0xFFFFFFFFFFFFFFFE), (2, 3)] kern))) =
      some (0xFFFFFFFFFFFFFFFF, 0xFFFFFFFFFFFFFFFA) ∧
    regOf 3 (exec (.mul 1 2 3) (hl 1 2 (gp [(1, 0xFFFFFFFFFFFFFFFE), (2, 3)] kern))) =
      some 0xFFFFFFFFFFFFFFFA := by decide +kernel
theorem test_mulu :
    hiLoOf (exec (.mulu 1 2 3) (hl 1 2 (gp [(1, 0xFFFFFFFFFFFFFFFE), (2, 3)] kern))) =
      some (0x0000000000000002, 0xFFFFFFFFFFFFFFFA) ∧
    regOf 3 (exec (.mulu 1 2 3) (hl 1 2 (gp [(1, 0xFFFFFFFFFFFFFFFE), (2, 3)] kern))) =
      some 0xFFFFFFFFFFFFFFFA := by decide +kernel
theorem test_muls :
    hiLoOf (exec (.muls 1 2 3) (hl 1 2 (gp [(1, 0xFFFFFFFFFFFFFFFE), (2, 3)] kern))) = some (0, 6) ∧
    regOf 3 (exec (.muls 1 2 3) (hl 1 2 (gp [(1, 0xFFFFFFFFFFFFFFFE), (2, 3)] kern))) = some 6 := by decide +kernel
theorem test_mulsu :
    hiLoOf (exec (.mulsu 1 2 3) (hl 1 2 (gp [(1, 0xFFFFFFFFFFFFFFFE), (2, 3)] kern))) =
      some (0xFFFFFFFFFFFFFFFD, 6) ∧
    regOf 3 (exec (.mulsu 1 2 3) (hl 1 2 (gp [(1, 0xFFFFFFFFFFFFFFFE), (2, 3)] kern))) = some 6 := by decide +kernel
theorem test_macc :
    hiLoOf (exec (.macc 1 2 3) (hl 1 2 (gp [(1, 0xFFFFFFFFFFFFFFFE), (2, 3)] kern))) =
      some (0, 0xFFFFFFFFFFFFFFFC) ∧
    regOf 3 (exec (.macc 1 2 3) (hl 1 2 (gp [(1, 0xFFFFFFFFFFFFFFFE), (2, 3)] kern))) =
      some 0xFFFFFFFFFFFFFFFC := by decide +kernel
theorem test_maccu :
    hiLoOf (exec (.maccu 1 2 3) (hl 1 2 (gp [(1, 0xFFFFFFFFFFFFFFFE), (2, 3)] kern))) =
      some (3, 0xFFFFFFFFFFFFFFFC) ∧
    regOf 3 (exec (.maccu 1 2 3) (hl 1 2 (gp [(1, 0xFFFFFFFFFFFFFFFE), (2, 3)] kern))) =
      some 0xFFFFFFFFFFFFFFFC := by decide +kernel
theorem test_msac :
    hiLoOf (exec (.msac 1 2 3) (hl 1 2 (gp [(1, 0xFFFFFFFFFFFFFFFE), (2, 3)] kern))) = some (1, 8) ∧
    regOf 3 (exec (.msac 1 2 3) (hl 1 2 (gp [(1, 0xFFFFFFFFFFFFFFFE), (2, 3)] kern))) = some 8 := by decide +kernel
theorem test_msacu :
    hiLoOf (exec (.msacu 1 2 3) (hl 1 2 (gp [(1, 0xFFFFFFFFFFFFFFFE), (2, 3)] kern))) =
      some (0xFFFFFFFFFFFFFFFE, 8) ∧
    regOf 3 (exec (.msacu 1 2 3) (hl 1 2 (gp [(1, 0xFFFFFFFFFFFFFFFE), (2, 3)] kern))) = some 8 := by decide +kernel
theorem test_mulhi :
    hiLoOf (exec (.mulhi 1 2 3) (hl 1 2 (gp [(1, 0xFFFFFFFFFFFFFFFE), (2, 3)] kern))) =
      some (0xFFFFFFFFFFFFFFFF, 0xFFFFFFFFFFFFFFFA) ∧
    regOf 3 (exec (.mulhi 1 2 3) (hl 1 2 (gp [(1, 0xFFFFFFFFFFFFFFFE), (2, 3)] kern))) =
      some 0xFFFFFFFFFFFFFFFF := by decide +kernel
theorem test_mulhiu :
    hiLoOf (exec (.mulhiu 1 2 3) (hl 1 2 (gp [(1, 0xFFFFFFFFFFFFFFFE), (2, 3)] kern))) =
      some (2, 0xFFFFFFFFFFFFFFFA) ∧
    regOf 3 (exec (.mulhiu 1 2 3) (hl 1 2 (gp [(1, 0xFFFFFFFFFFFFFFFE), (2, 3)] kern))) = some 2 := by decide +kernel
theorem test_mulshi :
    hiLoOf (exec (.mulshi 1 2 3) (hl 1 2 (gp [(1, 0xFFFFFFFFFFFFFFFE), (2, 3)] kern))) =
      some (0, 6) ∧
    regOf 3 (exec (.mulshi 1 2 3) (hl 1 2 (gp [(1, 0xFFFFFFFFFFFFFFFE), (2, 3)] kern))) = some 0 := by decide +kernel
theorem test_mulshiu :
    hiLoOf (exec (.mulshiu 1 2 3) (hl 1 2 (gp [(1, 0xFFFFFFFFFFFFFFFE), (2, 3)] kern))) =
      some (0xFFFFFFFFFFFFFFFD, 6) ∧
    regOf 3 (exec (.mulshiu 1 2 3) (hl 1 2 (gp [(1, 0xFFFFFFFFFFFFFFFE), (2, 3)] kern))) =
      some 0xFFFFFFFFFFFFFFFD := by decide +kernel
theorem test_macchi :
    hiLoOf (exec (.macchi 1 2 3) (hl 1 2 (gp [(1, 0xFFFFFFFFFFFFFFFE), (2, 3)] kern))) =
      some (0, 0xFFFFFFFFFFFFFFFC) ∧
    regOf 3 (exec (.macchi 1 2 3) (hl 1 2 (gp [(1, 0xFFFFFFFFFFFFFFFE), (2, 3)] kern))) = some 0 := by decide +kernel
theorem test_macchiu :
    hiLoOf (exec (.macchiu 1 2 3) (hl 1 2 (gp [(1, 0xFFFFFFFFFFFFFFFE), (2, 3)] kern))) =
      some (3, 0xFFFFFFFFFFFFFFFC) ∧
    regOf 3 (exec (.macchiu 1 2 3) (hl 1 2 (gp [(1, 0xFFFFFFFFFFFFFFFE), (2, 3)] kern))) = some 3 := by decide +kernel
theorem test_msachi :
    hiLoOf (exec (.msachi 1 2 3) (hl 1 2 (gp [(1, 0xFFFFFFFFFFFFFFFE), (2, 3)] kern))) =
      some (1, 8) ∧
    regOf 3 (exec (.msachi 1 2 3) (hl 1 2 (gp [(1, 0xFFFFFFFFFFFFFFFE), (2, 3)] kern))) = some 1 := by decide +kernel
theorem test_msachiu :
    hiLoOf (exec (.msachiu 1 2 3) (hl 1 2 (gp [(1, 0xFFFFFFFFFFFFFFFE), (2, 3)] kern))) =
      some (0xFFFFFFFFFFFFFFFE, 8) ∧
    regOf 3 (exec (.msachiu 1 2 3) (hl 1 2 (gp [(1, 0xFFFFFFFFFFFFFFFE), (2, 3)] kern))) =
      some 0xFFFFFFFFFFFFFFFE := by decide +kernel
theorem test_addi :
    excOf (exec (.addi 1 2 0x0001) (gp [(1, 0x000000007FFFFFFF)] kern)) = some 12 ∧
    regOf 2 (exec (.addi 1 2 0xFFFF) (gp [(1, 5)] kern)) = some 4 := by decide +kernel
theorem test_addiu :
    regOf 2 (exec (.addiu 1 2 0x0001) (gp [(1, 0x000000007FFFFFFF)] kern)) =
      some 0xFFFFFFFF80000000 ∧
    regOf 2 (exec (.addiu 1 2 0x8000) (gp [(1, 0)] kern)) = some 0xFFFFFFFFFFFF8000 := by decide +kernel
theorem test_slti :
    regOf 2 (exec (.slti 1 2 0x0000) (gp [(1, 0xFFFFFFFFFFFFFFFF)] kern)) = some 1 ∧
    regOf 2 (exec (.slti 1 2 0x7FFF) (gp [(1, 0x8000000000000000)] kern)) = some 1 := by decide +kernel
theorem test_sltiu :
    regOf 2 (exec (.sltiu 1 2 0xFFFF) (gp [(1, 0)] kern)) = some 1 ∧
    regOf 2 (exec (.sltiu 1 2 0xFFFF) (gp [(1, 0xFFFFFFFFFFFFFFFF)] kern)) = some 0 := by decide +kernel
theorem test_andi :
    regOf 2 (exec (.andi 1 2 0x8001) (gp [(1, 0xFFFFFFFFFFFFFFFF)] kern)) = some 0x0000000000008001 := by decide +kernel
theorem test_ori :
    regOf 2 (exec (.ori 1 2 0x8000) (gp [(1, 0)] kern)) = some 0x0000000000008000 := by decide +kernel
theorem test_xori :
    regOf 2 (exec (.xori 1 2 0xFFFF) (gp [(1, 0xFFFF)] kern)) = some 0 := by decide +kernel
theorem test_lui :
    regOf 2 (exec (.lui 2 0x8000) kern) = some 0xFFFFFFFF80000000 ∧
    regOf 2 (exec (.lui 2 0x7FFF) kern) = some 0x000000007FFF0000 := by decide +kernel
theorem test_daddi :
    excOf (exec (.daddi 1 2 1) (gp [(1, 0x7FFFFFFFFFFFFFFF)] kern)) = some 12 := by decide +kernel
theorem test_daddiu :
    regOf 2 (exec (.daddiu 1 2 1) (gp [(1, 0x7FFFFFFFFFFFFFFF)] kern)) = some 0x8000000000000000 ∧
    regOf 2 (exec (.daddiu 1 2 1) (gp [(1, 0x000000007FFFFFFF)] kern)) = some 0x0000000080000000 := by decide +kernel
theorem test_add :
    excOf (exec (.add 1 2 3) (gp [(1, 0x7FFFFFFF), (2, 1), (3, 9)] kern)) = some 12 ∧
    regOf 3 (exec (.add 1 2 3) (gp [(1, 0xFFFFFFFFFFFFFFFF), (2, 1), (3, 9)] kern)) = some 0 := by decide +kernel
theorem test_addu :
    regOf 3 (exec (.addu 1 2 3) (gp [(1, 0x7FFFFFFF), (2, 1), (3, 9)] kern)) =
      some 0xFFFFFFFF80000000 := by decide +kernel
theorem test_sub :
    excOf (exec (.sub 1 2 3) (gp [(1, 0xFFFFFFFF80000000), (2, 1), (3, 9)] kern)) = some 12 := by decide +kernel
theorem test_subu :
    regOf 3 (exec (.subu 1 2 3) (gp [(1, 0), (2, 1), (3, 9)] kern)) = some 0xFFFFFFFFFFFFFFFF := by decide +kernel
theorem test_slt :
    regOf 3 (exec (.slt 1 2 3) (gp [(1, 0x8000000000000000), (2, 0), (3, 9)] kern)) = some 1 := by decide +kernel
theorem test_sltu :
    regOf 3 (exec (.sltu 1 2 3) (gp [(1, 0x8000000000000000), (2, 0), (3, 9)] kern)) = some 0 ∧
    regOf 3 (exec (.sltu 1 2 3) (gp [(1, 0), (2, 0xFFFFFFFFFFFFFFFF), (3, 9)] kern)) = some 1 := by decide +kernel
theorem test_and :
    regOf 3 (exec (.and 1 2 3) (gp [(1, 0xFF00FF00FF00FF00), (2, 0x0FF00FF00FF00FF0), (3, 9)] kern)) =
      some 0x0F000F000F000F00 := by decide +kernel
theorem test_or :
    regOf 3 (exec (.or 1 2 3) (gp [(1, 0xFF00FF00FF00FF00), (2, 0x0FF00FF00FF00FF0), (3, 9)] kern)) =
      some 0xFFF0FFF0FFF0FFF0 := by decide +kernel
theorem test_xor :
    regOf 3 (exec (.xor 1 2 3) (gp [(1, 0xFF00FF00FF00FF00), (2, 0x0FF00FF00FF00FF0), (3, 9)] kern)) =
      some 0xF0F0F0F0F0F0F0F0 := by decide +kernel
theorem test_nor :
    regOf 3 (exec (.nor 1 2 3) (gp [(1, 0), (2, 0), (3, 9)] kern)) = some 0xFFFFFFFFFFFFFFFF := by decide +kernel
theorem test_dadd :
    excOf (exec (.dadd 1 2 3) (gp [(1, 0x8000000000000000), (2, 0xFFFFFFFFFFFFFFFF), (3, 9)] kern)) =
      some 12 := by decide +kernel
theorem test_daddu :
    regOf 3 (exec (.daddu 1 2 3) (gp [(1, 0xFFFFFFFFFFFFFFFF), (2, 1), (3, 9)] kern)) = some 0 := by decide +kernel
theorem test_dsub :
    excOf (exec (.dsub 1 2 3) (gp [(1, 0x8000000000000000), (2, 1), (3, 9)] kern)) = some 12 := by decide +kernel
theorem test_dsubu :
    regOf 3 (exec (.dsubu 1 2 3) (gp [(1, 0), (2, 1), (3, 9)] kern)) = some 0xFFFFFFFFFFFFFFFF := by decide +kernel
theorem test_movn :
    regOf 3 (exec (.movn 1 2 3) (gp [(1, 7), (2, 0), (3, 9)] kern)) = some 9 ∧
    regOf 3 (exec (.movn 1 2 3) (gp [(1, 7), (2, 1), (3, 9)] kern)) = some 7 := by decide +kernel
theorem test_movz :
    regOf 3 (exec (.movz 1 2 3) (gp [(1, 7), (2, 0), (3, 9)] kern)) = some 7 := by decide +kernel
theorem test_sll :
    regOf 2 (exec (.sll 1 2 1) (gp [(1, 0x0000000040000000)] kern)) = some 0xFFFFFFFF80000000 ∧
    regOf 2 (exec (.sll 1 2 0) (gp [(1, 0x123456789ABCDEF0)] kern)) = some 0xFFFFFFFF9ABCDEF0 := by decide +kernel
theorem test_srl :
    regOf 2 (exec (.srl 1 2 4) (gp [(1, 0xFFFFFFFF80000000)] kern)) = some 0x0000000008000000 ∧
    regOf 2 (exec (.srl 1 2 0) (gp [(1, 0xFFFFFFFF80000000)] kern)) = some 0xFFFFFFFF80000000 := by decide +kernel
theorem test_sra :
    regOf 2 (exec (.sra 1 2 4) (gp [(1, 0xFFFFFFFF80000000)] kern)) = some 0xFFFFFFFFF8000000 ∧
    regOf 2 (exec (.sra 1 2 31) (gp [(1, 0xFFFFFFFF80000000)] kern)) = some 0xFFFFFFFFFFFFFFFF := by decide +kernel
theorem test_sllv :
    regOf 3 (exec (.sllv 1 2 3) (gp [(1, 0x0000000000000021), (2, 1), (3, 9)] kern)) =
      some 0x0000000000000002 := by decide +kernel
theorem test_srlv :
    regOf 3 (exec (.srlv 1 2 3) (gp [(1, 0x3F), (2, 0xFFFFFFFF80000000), (3, 9)] kern)) =
      some 0x0000000000000001 := by decide +kernel
theorem test_srav :
    regOf 3 (exec (.srav 1 2 3) (gp [(1, 0x20), (2, 0xFFFFFFFF80000000), (3, 9)] kern)) =
      some 0xFFFFFFFF80000000 := by decide +kernel
theorem test_dsll :
    regOf 2 (exec (.dsll 1 2 31) (gp [(1, 1)] kern)) = some 0x0000000080000000 := by decide +kernel
theorem test_dsrl :
    regOf 2 (exec (.dsrl 1 2 31) (gp [(1, 0x8000000000000000)] kern)) = some 0x0000000100000000 := by decide +kernel
theorem test_dsra :
    regOf 2 (exec (.dsra 1 2 31) (gp [(1, 0x8000000000000000)] kern)) = some 0xFFFFFFFF00000000 := by decide +kernel
theorem test_dsllv :
    regOf 3 (exec (.dsllv 1 2 3) (gp [(1, 0x7F), (2, 1), (3, 9)] kern)) = some 0x8000000000000000 := by decide +kernel
theorem test_dsrlv :
    regOf 3 (exec (.dsrlv 1 2 3) (gp [(1, 63), (2, 0x8000000000000000), (3, 9)] kern)) = some 1 := by decide +kernel
theorem test_dsrav :
    regOf 3 (exec (.dsrav 1 2 3) (gp [(1, 63), (2, 0x8000000000000000), (3, 9)] kern)) =
      some 0xFFFFFFFFFFFFFFFF := by decide +kernel
theorem test_dsll32 :
    regOf 2 (exec (.dsll32 1 2 0) (gp [(1, 1)] kern)) = some 0x0000000100000000 ∧
    regOf 2 (exec (.dsll32 1 2 31) (gp [(1, 1)] kern)) = some 0x8000000000000000 := by decide +kernel
theorem test_dsrl32 :
    regOf 2 (exec (.dsrl32 1 2 31) (gp [(1, 0x8000000000000000)] kern)) = some 1 := by decide +kernel
theorem test_dsra32 :
    regOf 2 (exec (.dsra32 1 2 0) (gp [(1, 0x8000000000000000)] kern)) = some 0xFFFFFFFF80000000 := by decide +kernel
theorem test_ror :
    regOf 2 (exec (.ror 1 2 1) (gp [(1, 0x0000000000000001)] kern)) = some 0xFFFFFFFF80000000 ∧
    regOf 2 (exec (.ror 1 2 8) (gp [(1, 0x0000000012345678)] kern)) = some 0x0000000078123456 := by decide +kernel
theorem test_rorv :
    regOf 3 (exec (.rorv 1 2 3) (gp [(1, 0x28), (2, 0x0000000012345678), (3, 9)] kern)) =
      some 0x0000000078123456 := by decide +kernel
theorem test_dror :
    regOf 2 (exec (.dror 1 2 1) (gp [(1, 1)] kern)) = some 0x8000000000000000 := by decide +kernel
theorem test_dror32 :
    regOf 2 (exec (.dror32 1 2 0) (gp [(1, 0x0000000100000002)] kern)) = some 0x0000000200000001 := by decide +kernel
theorem test_drorv :
    regOf 3 (exec (.drorv 1 2 3) (gp [(1, 0x41), (2, 1), (3, 9)] kern)) = some 0x8000000000000000 := by decide +kernel
theorem test_clo :
    regOf 2 (exec (.clo 1 2) (gp [(1, 0xFFFFFFFFF0000000)] kern)) = some 4 ∧
    regOf 2 (exec (.clo 1 2) (gp [(1, 0)] kern)) = some 0 := by decide +kernel
theorem test_clz :
    regOf 2 (exec (.clz 1 2) (gp [(1, 0x0000000000010000)] kern)) = some 15 ∧
    regOf 2 (exec (.clz 1 2) (gp [(1, 0xFFFFFFFF80000000)] kern)) = some 0 := by decide +kernel
theorem test_dclo :
    regOf 2 (exec (.dclo 1 2) (gp [(1, 0xFFFFFFFFFFFFFFFF)] kern)) = some 64 ∧
    regOf 2 (exec (.dclo 1 2) (gp [(1, 0xFFFFFFFF00000000)] kern)) = some 32 := by decide +kernel
theorem test_dclz :
    regOf 2 (exec (.dclz 1 2) (gp [(1, 1)] kern)) = some 63 ∧
    regOf 2 (exec (.dclz 1 2) (gp [(1, 0)] kern)) = some 64 := by decide +kernel
theorem test_multu :
    hiLoOf (exec (.multu 1 2) (hl 0 0 (gp [(1, 0xffffffffffffffff), (2, 0xffffffffffffffff)] kern))) =
      some (0xFFFFFFFFFFFFFFFE, 0x0000000000000001) := by decide +kernel
theorem test_div :
    hiLoOf (exec (.div 1 2) (hl 0 0 (gp [(1, 0xfffffffffffffff9), (2, 2)] kern))) =
      some (0xFFFFFFFFFFFFFFFF, 0xFFFFFFFFFFFFFFFD) ∧
    hiLoOf (exec (.div 1 2) (hl 0 0 (gp [(1, 0xFFFFFFFF80000000), (2, 0xFFFFFFFFFFFFFFFF)] kern))) =
      some (0, 0xFFFFFFFF80000000) := by decide +kernel
theorem test_divu :
    hiLoOf (exec (.divu 1 2) (hl 0 0 (gp [(1, 0xffffffffffffffff), (2, 2)] kern))) =
      some (1, 0x000000007FFFFFFF) := by decide +kernel
theorem test_dmult :
    hiLoOf (exec (.dmult 1 2) (hl 0 0 (gp [(1, 0xFFFFFFFFFFFFFFFF), (2, 2)] kern))) =
      some (0xFFFFFFFFFFFFFFFF, 0xFFFFFFFFFFFFFFFE) ∧
    hiLoOf (exec (.dmult 1 2) (hl 0 0 (gp [(1, 0x8000000000000000), (2, 0x8000000000000000)] kern))) =
      some (0x4000000000000000, 0) := by decide +kernel
theorem test_dmultu :
    hiLoOf (exec (.dmultu 1 2) (hl 0 0 (gp [(1, 0xFFFFFFFFFFFFFFFF), (2, 0xFFFFFFFFFFFFFFFF)] kern))) =
      some (0xFFFFFFFFFFFFFFFE, 1) := by decide +kernel
theorem test_ddiv :
    hiLoOf (exec (.ddiv 1 2) (hl 0 0 (gp [(1, 0xfffffffffffffff9), (2, 2)] kern))) =
      some (0xFFFFFFFFFFFFFFFF, 0xFFFFFFFFFFFFFFFD) ∧
    hiLoOf (exec (.ddiv 1 2) (hl 0 0 (gp [(1, 0x8000000000000000), (2, 0xFFFFFFFFFFFFFFFF)] kern))) =
      some (0, 0x8000000000000000) := by decide +kernel
theorem test_ddivu :
    hiLoOf (exec (.ddivu 1 2) (hl 0 0 (gp [(1, 0xFFFFFFFFFFFFFFFF), (2, 2)] kern))) =
      some (1, 0x7FFFFFFFFFFFFFFF) := by decide +kernel
theorem test_madd :
    hiLoOf (exec (.madd 1 2) (hl 0 5 (gp [(1, 3), (2, 4)] kern))) = some (0, 17) ∧
    hiLoOf (exec (.madd 1 2) (hl 0 0xFFFFFFFFFFFFFFFF (gp [(1, 1), (2, 1)] kern))) = some (1, 0) := by decide +kernel
theorem test_maddu :
    hiLoOf (exec (.maddu 1 2) (hl 0 0 (gp [(1, 0xffffffffffffffff), (2, 0xffffffffffffffff)] kern))) =
      some (0xFFFFFFFFFFFFFFFE, 1) := by decide +kernel
theorem test_msub :
    hiLoOf (exec (.msub 1 2) (hl 0 5 (gp [(1, 3), (2, 4)] kern))) =
      some (0xFFFFFFFFFFFFFFFF, 0xFFFFFFFFFFFFFFF9) := by decide +kernel
theorem test_msubu :
    hiLoOf (exec (.msubu 1 2) (hl 0 5 (gp [(1, 3), (2, 4)] kern))) =
      some (0xFFFFFFFFFFFFFFFF, 0xFFFFFFFFFFFFFFF9) := by decide +kernel
theorem test_tge :
    excOf (exec (.tge 1 2 0) (gp [(1, 0), (2, 0)] kern)) = some 13 ∧
    excOf (exec (.tge 1 2 0) (gp [(1, 0xFFFFFFFFFFFFFFFF), (2, 0)] kern)) = none := by decide +kernel
theorem test_tgeu :
    excOf (exec (.tgeu 1 2 0) (gp [(1, 0xFFFFFFFFFFFFFFFF), (2, 0)] kern)) = some 13 := by decide +kernel
theorem test_tlt :
    excOf (exec (.tlt 1 2 0) (gp [(1, 0xFFFFFFFFFFFFFFFF), (2, 0)] kern)) = some 13 := by decide +kernel
theorem test_tltu :
    excOf (exec (.tltu 1 2 0) (gp [(1, 0xFFFFFFFFFFFFFFFF), (2, 0)] kern)) = none := by decide +kernel
theorem test_teq :
    excOf (exec (.teq 1 2 0) (gp [(1, 5), (2, 5)] kern)) = some 13 := by decide +kernel
theorem test_tne :
    excOf (exec (.tne 1 2 0) (gp [(1, 5), (2, 5)] kern)) = none := by decide +kernel
theorem test_tgei :
    excOf (exec (.tgei 1 0xFFFF) (gp [(1, 0), (2, 0)] kern)) = some 13 := by decide +kernel
theorem test_tgeiu :
    excOf (exec (.tgeiu 1 0xFFFF) (gp [(1, 0xFFFFFFFFFFFFFFFF), (2, 0)] kern)) = some 13 := by decide +kernel
theorem test_tlti :
    excOf (exec (.tlti 1 0) (gp [(1, 0xFFFFFFFFFFFFFFFF), (2, 0)] kern)) = some 13 := by decide +kernel
theorem test_tltiu :
    excOf (exec (.tltiu 1 0xFFFF) (gp [(1, 0), (2, 0)] kern)) = some 13 := by decide +kernel
theorem test_teqi :
    excOf (exec (.teqi 1 0xFFFF) (gp [(1, 0xFFFFFFFFFFFFFFFF), (2, 0)] kern)) = some 13 := by decide +kernel
theorem test_tnei :
    excOf (exec (.tnei 1 0xFFFF) (gp [(1, 0xFFFF), (2, 0)] kern)) = some 13 := by decide +kernel
theorem test_fpAddS :
    fOf 0 (exec (.fpAddS 6 4 0) (fcr 0 (fpw [(4, 0x3F800000), (6, 0x40000000), (0, 0x1122)] kern))) =
      some (0x40400000, 0) ∧
    fOf 0 (exec (.fpAddS 6 4 0) (fcr 2 (fpw [(4, 0x3F800000), (6, 0x33800000), (0, 0x1122)] kern))) =
      some (0x3F800001, 0x1006) := by decide +kernel
theorem test_fpSubS :
    fOf 0 (exec (.fpSubS 6 4 0) (fcr 0 (fpw [(4, 0x3F800000), (6, 0x3F800000), (0, 0x1122)] kern))) =
      some (0, 0) ∧
    fOf 0 (exec (.fpSubS 6 4 0) (fcr 1 (fpw [(4, 0x3F800000), (6, 0x3F800000), (0, 0x1122)] kern))) =
      some (0, 1) := by decide +kernel
theorem test_fpSubD :
    dOf 0 (exec (.fpSubD 6 4 0) (fcr 0 (fpw [(4, 0x4008000000000000), (6, 0x3FF8000000000000), (0, 0x1122)] kern))) =
      some (0x3FF8000000000000, 0) := by decide +kernel
theorem test_fpMulS :
    fOf 0 (exec (.fpMulS 6 4 0) (fcr 0 (fpw [(4, 0x7F000000), (6, 0x40000000), (0, 0x1122)] kern))) =
      some (0x7F800000, 0x5014) ∧
    fOf 0 (exec (.fpMulS 6 4 0) (fcr 0x1000002 (fpw [(4, 0x00800000), (6, 0x3F000000), (0, 0x1122)] kern))) =
      some (0x00800000, 0x100300E) := by decide +kernel
theorem test_fpDivS :
    fOf 0 (exec (.fpDivS 6 4 0) (fcr 0 (fpw [(4, 0x3F800000), (6, 0), (0, 0x1122)] kern))) =
      some (0x7F800000, 0x8020) ∧
    fOf 0 (exec (.fpDivS 6 4 0) (fcr 0 (fpw [(4, 0xBF800000), (6, 0), (0, 0x1122)] kern))) =
      some (0xFF800000, 0x8020) := by decide +kernel
theorem test_fpDivD :
    dOf 0 (exec (.fpDivD 6 4 0) (fcr 0 (fpw [(4, 0x3FF0000000000000), (6, 0x4008000000000000), (0, 0x1122)] kern))) =
      some (0x3FD5555555555555, 0x1004) := by decide +kernel
theorem test_fpSqrtS :
    fOf 0 (exec (.fpSqrtS 4 0) (fcr 0 (fpw [(4, 0x40800000), (0, 0x1122)] kern))) =
      some (0x40000000, 0) ∧
    fOf 0 (exec (.fpSqrtS 4 0) (fcr 0 (fpw [(4, 0x40000000), (0, 0x1122)] kern))) =
      some (0x3FB504F3, 0x1004) := by decide +kernel
theorem test_fpSqrtD :
    dOf 0 (exec (.fpSqrtD 4 0) (fcr 0 (fpw [(4, 0x4000000000000000), (0, 0x1122)] kern))) =
      some (0x3FF6A09E667F3BCD, 0x1004) := by decide +kernel
theorem test_fpAbsS :
    fOf 0 (exec (.fpAbsS 4 0) (fcr 0 (fpw [(4, 0xBF800000), (0, 0x1122)] kern))) =
      some (0x3F800000, 0) := by decide +kernel
theorem test_fpNegS :
    fOf 0 (exec (.fpNegS 4 0) (fcr 0 (fpw [(4, 0), (0, 0x1122)] kern))) = some (0x80000000, 0) ∧
    fOf 0 (exec (.fpNegS 4 0) (fcr 0 (fpw [(4, 0x7FBFFFFF), (0, 0x1122)] kern))) =
      some (0x1122, 0x20000) := by decide +kernel
theorem test_fpRecipS :
    fOf 0 (exec (.fpRecipS 4 0) (fcr 0 (fpw [(4, 0x40000000), (0, 0x1122)] kern))) =
      some (0x3F000000, 0) ∧
    fOf 0 (exec (.fpRecipS 4 0) (fcr 0 (fpw [(4, 0), (0, 0x1122)] kern))) =
      some (0x7F800000, 0x8020) := by decide +kernel
theorem test_fpRecipD :
    dOf 0 (exec (.fpRecipD 4 0) (fcr 0 (fpw [(4, 0x4008000000000000), (0, 0x1122)] kern))) =
      some (0x3FD5555555555555, 0x1004) := by decide +kernel
theorem test_fpRsqrtS :
    fOf 0 (exec (.fpRsqrtS 4 0) (fcr 0 (fpw [(4, 0x40800000), (0, 0x1122)] kern))) =
      some (0x3F000000, 0) := by decide +kernel
theorem test_fpRsqrtD :
    dOf 0 (exec (.fpRsqrtD 4 0) (fcr 0 (fpw [(4, 0x4000000000000000), (0, 0x1122)] kern))) =
      some (0x3FE6A09E667F3BCD, 0x1004) := by decide +kernel
theorem test_fpMaddS :
    fOf 0 (exec (.fpMaddS 2 6 4 0) (fpw [(2, 0x3F800000), (4, 0x40000000), (6, 0x40400000)] kern)) =
      some (0x40E00000, 0) := by decide +kernel
theorem test_fpMsubS :
    fOf 0 (exec (.fpMsubS 2 6 4 0) (fpw [(2, 0x3F800000), (4, 0x40000000), (6, 0x40400000)] kern)) =
      some (0x40A00000, 0) := by decide +kernel
theorem test_fpNmaddS :
    fOf 0 (exec (.fpNmaddS 2 6 4 0) (fpw [(2, 0x3F800000), (4, 0x40000000), (6, 0x40400000)] kern)) =
      some (0xC0E00000, 0) := by decide +kernel
theorem test_fpNmsubS :
    fOf 0 (exec (.fpNmsubS 2 6 4 0) (fpw [(2, 0x3F800000), (4, 0x40000000), (6, 0x40400000)] kern)) =
      some (0xC0A00000, 0) := by decide +kernel
theorem test_fpRoundWS :
    fOf 0 (exec (.fpRoundWS 4 0) (fcr 0 (fpw [(4, 0x40200000), (0, 0x1122)] kern))) =
      some (2, 0x1004) ∧
    fOf 0 (exec (.fpRoundWS 4 0) (fcr 0 (fpw [(4, 0x40600000), (0, 0x1122)] kern))) =
      some (4, 0x1004) := by decide +kernel
theorem test_fpTruncWD :
    fOf 0 (exec (.fpTruncWD 4 0) (fcr 0 (fpw [(4, 0xC00599999999999A), (0, 0x1122)] kern))) =
      some (0xFFFFFFFE, 0x1004) ∧
    fOf 0 (exec (.fpTruncWD 4 0) (fcr 0 (fpw [(4, 0x41DFFFFFFFE00000), (0, 0x1122)] kern))) =
      some (0x7FFFFFFF, 0x1004) := by decide +kernel
theorem test_fpCeilWS :
    fOf 0 (exec (.fpCeilWS 4 0) (fcr 0 (fpw [(4, 0x3DCCCCCD), (0, 0x1122)] kern))) =
      some (1, 0x1004) := by decide +kernel
theorem test_fpFloorWD :
    fOf 0 (exec (.fpFloorWD 4 0) (fcr 0 (fpw [(4, 0xBFB999999999999A), (0, 0x1122)] kern))) =
      some (0xFFFFFFFF, 0x1004) := by decide +kernel
theorem test_fpTruncWS :
    fOf 0 (exec (.fpTruncWS 4 0) (fcr 0 (fpw [(4, 0x4F000000), (0, 0x1122)] kern))) =
      some (0x1122, 0x20000) := by decide +kernel
theorem test_fpTruncLD :
    dOf 0 (exec (.fpTruncLD 4 0) (fcr 0 (fpw [(4, 0x4340000000000000), (0, 0x1122)] kern))) =
      some (0x1122, 0x20000) ∧
    dOf 0 (exec (.fpTruncLD 4 0) (fcr 0 (fpw [(4, 0x433FFFFFFFFFFFFF), (0, 0x1122)] kern))) =
      some (0x001FFFFFFFFFFFFF, 0) := by decide +kernel
theorem test_fpRoundLS :
    dOf 0 (exec (.fpRoundLS 4 0) (fcr 0 (fpw [(4, 0x40200000), (0, 0x1122)] kern))) =
      some (2, 0x1004) := by decide +kernel
theorem test_fpCvtWS :
    fOf 0 (exec (.fpCvtWS 4 0) (fcr 0 (fpw [(4, 0x40200000), (0, 0x1122)] kern))) =
      some (2, 0x1004) ∧
    fOf 0 (exec (.fpCvtWS 4 0) (fcr 1 (fpw [(4, 0x40200000), (0, 0x1122)] kern))) =
      some (2, 0x1005) := by decide +kernel
theorem test_fpCvtSW :
    fOf 0 (exec (.fpCvtSW 4 0) (fcr 0 (fpw [(4, 3), (0, 0x1122)] kern))) = some (0x40400000, 0) ∧
    fOf 0 (exec (.fpCvtSW 4 0) (fcr 0 (fpw [(4, 0x01000001), (0, 0x1122)] kern))) =
      some (0x4B800000, 0x1004) := by decide +kernel
theorem test_fpCvtDS :
    dOf 0 (exec (.fpCvtDS 4 0) (fcr 0 (fpw [(4, 0x3FC00000), (0, 0x1122)] kern))) =
      some (0x3FF8000000000000, 0) := by decide +kernel
theorem test_fpCvtDW :
    dOf 0 (exec (.fpCvtDW 4 0) (fcr 0 (fpw [(4, 0xFFFFFFFE), (0, 0x1122)] kern))) =
      some (0xC000000000000000, 0) := by decide +kernel
theorem test_fpCvtSD :
    fOf 0 (exec (.fpCvtSD 4 0) (fcr 0 (fpw [(4, 0x3FF0000000000001), (0, 0x1122)] kern))) =
      some (0x3F800000, 0x1004) ∧
    fOf 0 (exec (.fpCvtSD 4 0) (fcr 0 (fpw [(4, 0x3FB999999999999A), (0, 0x1122)] kern))) =
      some (0x3DCCCCCD, 0x1004) := by decide +kernel
theorem test_fpCvtLD :
    dOf 0 (exec (.fpCvtLD 4 0) (fcr 0 (fpw [(4, 0xC008000000000000), (0, 0x1122)] kern))) =
      some (0xFFFFFFFFFFFFFFFD, 0) ∧
    dOf 0 (exec (.fpCvtLD 4 0) (fcr 0 (fpw [(4, 0xC340000000000000), (0, 0x1122)] kern))) =
      some (0xFFE0000000000000, 0) := by decide +kernel
theorem test_fpCvtDL :
    dOf 0 (exec (.fpCvtDL 4 0) (fcr 0 (fpw [(4, 0x007FFFFFFFFFFFFF), (0, 0x1122)] kern))) =
      some (0x4360000000000000, 0x1004) ∧
    dOf 0 (exec (.fpCvtDL 4 0) (fcr 0 (fpw [(4, 0x0080000000000000), (0, 0x1122)] kern))) =
      some (0x1122, 0x20000) := by decide +kernel
theorem test_fpCLtS :
    (fOf 0 (exec (.fpCLtS 6 4 0) (fcr 0 (fpw [(4, 0x3F800000), (6, 0x40000000)] kern)))).map (·.2) =
      some 0x800000 ∧
    (fOf 0 (exec (.fpCLtS 6 4 0) (fcr 0 (fpw [(4, 1), (6, 2)] kern)))).map (·.2) = some 0x800000 := by decide +kernel
theorem test_fpCEqD :
    (fOf 0 (exec (.fpCEqD 6 4 0) (fcr 0 (fpw [(4, 0), (6, 0x8000000000000000)] kern)))).map (·.2) =
      some 0x800000 := by decide +kernel
theorem test_fpCLeS :
    (fOf 0 (exec (.fpCLeS 6 4 3) (fcr 0x08000000 (fpw [(4, 0x40000000), (6, 0x3F800000)] kern)))).map (·.2) =
      some 0 := by decide +kernel
theorem test_fpCUnS :
    (fOf 0 (exec (.fpCUnS 6 4 0) (fcr 0 (fpw [(4, 0x7FBFFFFF), (6, 0x3F800000)] kern)))).map (·.2) =
      some 0x800000 := by decide +kernel
theorem test_fpCEqS :
    (fOf 0 (exec (.fpCEqS 6 4 0) (fcr 0 (fpw [(4, 0x7FBFFFFF), (6, 0x7FBFFFFF)] kern)))).map (·.2) =
      some 0 ∧
    (fOf 0 (exec (.fpCEqS 6 4 0) (fcr 0 (fpw [(4, 0x7FC00000), (6, 0x3F800000)] kern)))).map (·.2) =
      some 0x10040 := by decide +kernel
theorem test_fpCNgeS :
    (fOf 0 (exec (.fpCNgeS 6 4 0) (fcr 0 (fpw [(4, 0x7FBFFFFF), (6, 0x3F800000)] kern)))).map (·.2) =
      some 0x810040 := by decide +kernel
theorem test_fpCFS :
    (fOf 0 (exec (.fpCFS 6 4 0) (fcr 0 (fpw [(4, 1), (6, 2)] kern)))).map (·.2) = some 0 := by decide +kernel

/-! ## Control flow, CP0, the TLB and the moves of the FPU: expected values worked out by hand from the rules -/

/-- 43_branch_jump.md rules R601, R608: the target is relative to the delay slot. -/
theorem test_beq_taken : pcs (exec (.beq 1 2 3) kern) = some (0xFFFFFFFF80001004, 0xFFFFFFFF80001010, true) := by
  decide +kernel
theorem test_bne_not_taken :
    pcs (exec (.bne 1 2 3) kern) = some (0xFFFFFFFF80001004, 0xFFFFFFFF80001008, true) := by decide +kernel
/-- Rule R603: a likely branch not taken nullifies its delay slot. -/
theorem test_bnel_nullifies :
    pcs (exec (.bnel 1 2 3) kern) = some (0xFFFFFFFF80001008, 0xFFFFFFFF8000100C, false) := by decide +kernel
theorem test_bgezal_links :
    regOf 31 (exec (.bgezal 1 0xFFFF) (gp [(1, 0xFFFFFFFFFFFFFFFF)] kern)) = some 0xFFFFFFFF80001008 := by
  decide +kernel
theorem test_jal : pcs (exec (.jal 0x0000400) kern) = some (0xFFFFFFFF80001004, 0xFFFFFFFF80001000, true) ∧
    regOf 31 (exec (.jal 0x0000400) kern) = some 0xFFFFFFFF80001008 := by decide +kernel
theorem test_jalr : regOf 5 (exec (.jalr 1 5) (gp [(1, 0x40)] kern)) = some 0xFFFFFFFF80001008 ∧
    pcs (exec (.jalr 1 5) (gp [(1, 0x40)] kern)) = some (0xFFFFFFFF80001004, 0x40, true) := by decide +kernel
/-- 60_exceptions.md rules R1003, R1012: the entry, from a delay slot. -/
theorem test_syscall_in_slot :
    got (fun t => (t.pc, t.cp0.epc, t.cp0.cause.bd, t.cp0.cause.excCode)) (exec (.syscall 5) (slot kern)) =
      some (0xFFFFFFFF80000180, 0xFFFFFFFF80000FFC, true, 8) := by decide +kernel
theorem test_break_bev : got (·.pc) (exec (.breakpoint 0) (withStatus { kernelStatus with bev := true })) =
    some 0xFFFFFFFFBFC00380 := by decide +kernel
/-- 45_cp0_system.md rule R730: ERL before EXL. -/
theorem test_eret_error :
    got (fun t => (t.pc, t.status.erl, t.status.exl))
      (exec .eret { kern with cp0 := { Cp0.reset with
        status := { kernelStatus with erl := true, exl := true }, errorEpc := 0x80, epc := 0x40 } }) =
      some (0x80, false, true) := by decide +kernel
theorem test_eret_exception :
    got (fun t => (t.pc, t.status.exl))
      (exec .eret { kern with cp0 := { Cp0.reset with status := { kernelStatus with exl := true }, epc := 0x40 } }) =
      some (0x40, false) := by decide +kernel
theorem test_mtc0_compare : got (fun t => (t.cp0.compare, t.inputs.timerReq))
    (exec (.mtc0 1 11) (inp (fun i => { i with timerReq := true }) (gp [(1, 7)] kern))) = some (7, false) := by
  decide +kernel
theorem test_mtc0_wired : got (fun t => (t.cp0.wired, t.cp0.random)) (exec (.mtc0 1 6) (gp [(1, 5)] kern)) =
    some (5, 47) := by decide +kernel
theorem test_mfc0_sign : regOf 2 (exec (.mfc0 2 8) { kern with cp0 := { kern.cp0 with badVAddr := 0x180000000 } }) =
    some 0xFFFFFFFF80000000 := by decide +kernel
theorem test_dmfc0 : regOf 2 (exec (.dmfc0 2 8) { kern with cp0 := { kern.cp0 with badVAddr := 0x180000000 } }) =
    some 0x180000000 := by decide +kernel
theorem test_mtps_mask : got (·.cp0.perfControl1.toWord) (exec (.mtps 1 1) (gp [(1, 0xFFFFFFFF)] kern)) =
    some 0x1FF := by decide +kernel
/-- 20_memory.md rules R115, R117: entry 0 maps the pages of 0x4000 and 0x5000 to the frames 3 and 9. -/
def mapped : State :=
  kern.setTlb 0
    { TlbEntry.zero with
      vpn2 := 2, g := true, pfn0 := 3, c0 := 3, d0 := true, v0 := true, pfn1 := 9, c1 := 2, v1 := true }
theorem test_fetch_mapped : { mapped with pc := 0x5010 }.instrAddr = .ok (0x9010, 2) := by decide +kernel
theorem test_tlb_even : mapped.dataAddr 0x4010 4 true = .ok (0x3010, 3) := by decide +kernel
theorem test_tlb_odd : mapped.dataAddr 0x5010 4 false = .ok (0x9010, 2) := by decide +kernel
theorem test_tlb_modified : mapped.dataAddr 0x5010 4 true = .error (.tlbModified 0x5010) := by decide +kernel
theorem test_tlb_refill : mapped.dataAddr 0x8000 4 true = .error (.tlbRefill 0x8000 true false) := by decide +kernel
theorem test_tlbp : got (·.cp0.index)
    (exec .tlbp { mapped with cp0 := { mapped.cp0 with entryHi := { r := 0, fill := 0, vpn2 := 2, asid := 9 } } }) =
    some { p := false, index := 0 } := by decide +kernel
theorem test_tlbr : got (fun t => (t.cp0.entryHi.vpn2, t.cp0.entryLo0.pfn, t.cp0.entryLo1.g)) (exec .tlbr mapped) =
    some (2, 3, true) := by decide +kernel
/-- 92_eei_decisions.md D22: in 32-bit addressing mode the upper half is the sign extension of bit 31; 10_state.md rule
R19: in 64-bit addressing mode the fill bits read 0. -/
theorem test_tlbr_upper : got (·.readCp0 10)
    (exec .tlbr (kern.setTlb 0 { TlbEntry.zero with r := 1, vpn2 := 0x60001, asid := 5 })) =
    some 0xFFFFFFFFC0002005 := by decide +kernel
theorem test_refill_entryHi :
    let e := Exc.tlbRefill 0xFFFFFFFFC0002000 false false
    (takeException e kern).readCp0 10 = 0xFFFFFFFFC0002000 ∧
      (takeException e (withStatus { kernelStatus with kx := true })).readCp0 10 = 0xC00000FFC0002000 := by
  decide +kernel
/-- 10_state.md rule R19: the fill bits ignore a write. -/
theorem test_entryHi_write :
    got (·.readCp0 10) (exec (.dmtc0 1 10) (gp [(1, 0xFFFFFFFFFFFFFFFF)] kern)) = some 0xC00000FFFFFFE0FF := by
  decide +kernel
/-- 95_test_vectors.md: TLBR of an entry gives these images of EntryLo; Cause after AdEL is 0x10. -/
theorem test_entryLo_image :
    (kern.setCp0 { kern.cp0 with entryLo0 := { pfn := 5, c := 3, d := true, v := true, g := true } }).readCp0 2 = 0x15F := by
  decide +kernel
theorem test_cause_image :
    got (·.readCp0 13) (exec (.lw 1 2 2) (gp [(1, 0xFFFFFFFF80002000)] kern)) = some 0x10 := by decide +kernel
theorem test_tlbwi : got (fun t => (t.tlb[5]?.map (·.pfn0), t.tlb[5]?.map (·.g)))
    (exec .tlbwi { kern with cp0 := { kern.cp0 with
      index := { p := false, index := 5 }, entryLo0 := { pfn := 7, c := 3, d := true, v := true, g := true } } }) =
    some (some 7, some false) := by decide +kernel
theorem test_wait : got (·.runState) (exec (.wait 0) kern) = some .standby := by decide +kernel
theorem test_ll_sets : got (fun t => (t.llBit, t.linkAddr, t.cp0.llAddr))
    (exec (.ll 1 2 0) { gp [(1, 0xFFFFFFFF80002000)] kern with
      cp0 := { kern.cp0 with config := { kern.cp0.config with k0 := 3 } } }) =
    some (true, 0x2000, 0x200) := by decide +kernel
theorem test_sc_fails : regOf 2 (exec (.sc 1 2 0) (gp [(1, 0xFFFFFFFF80002000), (2, 9)] kern)) = some 0 := by
  decide +kernel
/-- 40_load_store.md rule R328: the TLB checks are made with the LL bit 0 too. -/
theorem test_sc_unmapped : excOf (exec (.sc 1 2 0) (gp [(1, 0x8000)] kern)) = some 3 := by decide +kernel
theorem test_lw_misaligned : excOf (exec (.lw 1 2 2) (gp [(1, 0xFFFFFFFF80002000)] kern)) = some 4 := by decide +kernel
theorem test_sh_misaligned : excOf (exec (.sh 1 2 1) (gp [(1, 0xFFFFFFFF80002000)] kern)) = some 5 := by decide +kernel
theorem test_sd_big :
    memOf 0x2000 8 (exec (.sd 1 2 0) (big (gp [(1, 0xFFFFFFFF80002000), (2, 0x1122334455667788)] kern))) =
    some [0x11, 0x22, 0x33, 0x44, 0x55, 0x66, 0x77, 0x88] := by decide +kernel
theorem test_sw_little :
    memOf 0x2000 4 (exec (.sw 1 2 0) (gp [(1, 0xFFFFFFFF80002000), (2, 0x1122334455667788)] kern)) =
    some [0x88, 0x77, 0x66, 0x55] := by decide +kernel
theorem test_lwc1 : got (fun t => (t.fp 4).lo)
    (exec (.lwc1 1 4 0) (bytes 0x2000 [1, 2, 3, 4] (gp [(1, 0xFFFFFFFF80002000)] kern))) = some 0x04030201 := by
  decide +kernel
theorem test_mtc1_odd : got (fun t => t.fp 4)
    (exec (.mtc1 1 5) (gp [(1, 7)] (withStatus { kernelStatus with fr := false }))) = some { hi := 7, lo := 0 } := by
  decide +kernel
theorem test_ctc1_traps : excOf (exec (.ctc1 1 31) (gp [(1, 0x00010800)] kern)) = some 15 := by decide +kernel
theorem test_cfc1 : regOf 2 (exec (.cfc1 2 31) (fcr 0x01800003 kern)) = some 0x01800003 := by decide +kernel
theorem test_movt : regOf 3 (exec (.movt 1 0 3) (fcr 0x00800000 (gp [(1, 6)] kern))) = some 6 := by decide +kernel
theorem test_bc1t : pcs (exec (.bc1t 0 1) (fcr 0x00800000 kern)) =
    some (0xFFFFFFFF80001004, 0xFFFFFFFF80001008, true) := by decide +kernel
theorem test_fpu_unusable : excOf (exec (.fpMovS 1 2) (withStatus userStatus)) = some 11 := by decide +kernel
theorem test_64bit_in_user : excOf (exec (.daddu 1 2 3) (withStatus userStatus)) = some 10 := by decide +kernel
theorem test_interrupt : got (fun t => (t.pc, t.cp0.epc, t.cp0.cause.excCode))
    (step (inp (fun i => { i with intPin := 1 }) (withStatus { kernelStatus with ie := true, im := 4 }))) =
    some (0xFFFFFFFF80000180, 0xFFFFFFFF80001000, 0) := by decide +kernel
theorem test_first_step : regOf 2 (step (State.reset.withFetchWord 32 0x24020005)) = some 5 := by decide +kernel
theorem test_first_step_pc : got (·.pc) (step (State.reset.withFetchWord 32 0x24020005)) = some 0xFFFFFFFFBFC00004 := by
  decide +kernel


/-! ## Witnesses: states and operands that meet the hypotheses of the obligations

`witness_<Name>` is about `Obligations.<Name>`; its parts are the clauses, at the boundary values of their ranges. -/

/-- kseg0 cached, r1 at 0x80002000, r2 a value. -/
def cached : State :=
  (gp [(1, 0xFFFFFFFF80002000), (2, 0x1122334455667788)] kern).setCp0
    { kern.cp0 with config := { ep := 0, em := 0, k0 := 3 } }

/-- The same, uncached. -/
def uncached : State := gp [(1, 0xFFFFFFFFA0002000)] kern

/-- The same, linked by a load-linked of r1. -/
def linked : State := cached.setLink 0x2000

/-- User mode with 64-bit operations and MIPS IV. -/
def wideUser : State := withStatus { kernelStatus with ksu := 2, ux := true, xx := true, cu0 := false }

/-- Status.FR = 0. -/
def narrow : State := withStatus { kernelStatus with fr := false }

/-- Coprocessors unusable, 32-bit user mode. -/
def bare : State := withStatus userStatus

/-- User mode with the FPU. -/
def userFpu : State := withStatus { userStatus with cu1 := true }

theorem witness_StepRunsDecodedInstruction :
    let s := kern.withFetchWord 32 0x24020005
    s.deliver.Ready ∧ s.deliver.instrAddr = .ok (0x1000, 0) ∧ s.deliver.inputs.busErrFetch = false ∧
      decodeBytes s.deliver.pins.bigEndian (s.deliver.byteAt 0x1000) (s.deliver.byteAt 0x1001)
        (s.deliver.byteAt 0x1002) (s.deliver.byteAt 0x1003) = .ok (.addiu 0 2 5) := by
  unfold State.Ready; decide +kernel

theorem witness_StepRunsDecodedInstruction_big :
    let s := (big kern).withFetchWord 32 0x24020005
    s.deliver.Ready ∧ s.deliver.instrAddr = .ok (0x1000, 0) ∧ s.deliver.inputs.busErrFetch = false ∧
      decodeBytes s.deliver.pins.bigEndian (s.deliver.byteAt 0x1000) (s.deliver.byteAt 0x1001)
        (s.deliver.byteAt 0x1002) (s.deliver.byteAt 0x1003) = .ok (.addiu 0 2 5) := by
  unfold State.Ready; decide +kernel

/-- A fetch address error, a bus error, and words of no instruction: one for each reason. -/
theorem witness_StepRunsDecodedInstruction_exceptions :
    (let s := { kern with pc := 0xFFFFFFFF80001002 }
     s.deliver.Ready ∧ s.deliver.instrAddr = .error (.addressErrorFetch 0xFFFFFFFF80001002)) ∧
    (let s := { kern with env := [[.busErrorFetch]] }
     s.deliver.Ready ∧ s.deliver.instrAddr = .ok (0x1000, 0) ∧ s.deliver.inputs.busErrFetch = true) ∧
    decodeBytes false 0x00 0x00 0x00 0x74 = .error .reserved ∧ decodeBytes false 0x00 0x00 0x60 0x40 = .error .cop0 ∧
    decodeBytes false 0x10 0x00 0x00 0x46 = .error .cop1Unimplemented ∧
    decodeBytes false 0x08 0x00 0x80 0x46 = .error .cop1LongInvalid ∧
    decodeBytes false 0x00 0x00 0x00 0x48 = .error .cop2 := by
  unfold State.Ready; decide +kernel

/-- The hypotheses about words, and a word of each counted kind. -/
theorem witness_StepRunsDecodedInstruction_words :
    opOf 0x48000000 = 0b010010#6 ∧ opOf 0xF8000000 = 0x3E ∧ opOf 0xEC000000 = 0x3B ∧
    (fnOf 0x00000418 = 0x18 ∧ f4Of 0x00000418 ∉ ([0, 1, 3, 5, 7, 9, 11, 13, 15] : List (BitVec 5)) ∧ fnOf 0x000007D9 = 0x19 ∧
      f4Of 0x000007D9 ∉ ([0, 1, 3, 5, 7, 9, 11, 13, 15] : List (BitVec 5))) ∧
    (opOf 0x4C00003F = 0b010011#6 ∧ fnOf 0x4C00003F ∉ ([0x00, 0x01, 0x05, 0x08, 0x09, 0x0D, 0x0F, 0x20, 0x21, 0x28, 0x29,
      0x30, 0x31, 0x38, 0x39] : List (BitVec 6))) ∧
    (opOf 0x0000003D = 0 ∧ fnOf 0x0000003D = 0x3D ∧ opOf 0x041F0000 = 0b000001#6 ∧ f2Of 0x041F0000 = 0x1F ∧
      opOf 0x70000003 = 0b011100#6 ∧ fnOf 0x70000003 = 0x03) ∧
    (opOf 0x46400000 = 0b010001#6 ∧ f1Of 0x46400000 = 0x12 ∧ f1Of 0x4620002F = 0x11 ∧ fnOf 0x4620002F = 0x2F ∧
      f1Of 0x46000020 = 0x10 ∧ fnOf 0x46000020 = 0x20 ∧ f1Of 0x46A00024 = 0x15 ∧ fnOf 0x46A00024 = 0x24) ∧
    (opOf 0x4200003F = 0b010000#6 ∧ (0x4200003F : Word).getLsbD 25 = true ∧
      fnOf 0x4200003F ∉ ([0x01, 0x02, 0x06, 0x08, 0x18, 0x20] : List (BitVec 6))) ∧
    (opOf 0x41E00000 = 0b010000#6 ∧ (0x41E00000 : Word).getLsbD 25 = false ∧
      f1Of 0x41E00000 ∉ ([0, 1, 4, 5, 8] : List (BitVec 5))) ∧
    (f1Of 0x41040000 = 8 ∧ f2Of 0x41040000 ∉ ([0, 1, 2, 3] : List (BitVec 5))) ∧
    countsAsLoad 0x8C830008 = true ∧ countsAsStore 0xAFA3FFFC = true ∧
    (isJump 0x10220003 = false ∧ countsAsBranch 0x10220003 = true) ∧ countsAsFp 0x46262080 = true := by
  decide +kernel

/-- A counter of event 1 in kernel mode that overflows with its interrupt enabled, and one of another event. -/
theorem witness_StepRunsDecodedInstruction_counting :
    let s := kern.setCp0 { kern.cp0 with
      perfControl0 := { event := 1, ie := true, u := false, s := false, k := true, exl := false }
      perfCounter0 := 0xFFFFFFFF }
    s.status.exl = false ∧ s.status.erl = false ∧ s.status.mode = .kernel ∧ s.cp0.perfControl0.k = true ∧
      (s.countEvent 1).cp0.perfCounter0 = 0 ∧ (s.countEvent 1).inputs.timerReq = true ∧
      (s.countEvent 2).cp0.perfCounter0 = 0xFFFFFFFF ∧ (s.countEvent 2).inputs.timerReq = false := by
  decide +kernel

theorem witness_DecodeOfEncode : (Instr.sll 0 0 2).wellFormed = true ∧ Instr.ssnop.wellFormed = true := by decide +kernel

theorem witness_DecodedInstructionsAreWellFormed :
    decode 0x00000040 = .ok .ssnop ∧ decode 0x40024801 = .ok (.mfc0 2 9) := by decide +kernel

theorem test_reset_memory_canonical : State.reset.Canonical := by unfold State.Canonical; decide +kernel

/-- A step that stores a byte. -/
def storing : State := (gp [(1, 0xFFFFFFFF80002000), (2, 7)] kern).withFetchWord 32 0xA0220000

theorem witness_StepKeepsMemoryCanonical : storing.Canonical ∧ ∃ t, step storing = .next t ∧ t.byteAt 0x2000 = 7 := by
  exact ⟨by unfold State.Canonical; decide +kernel,
    next_of_got (f := (·.byteAt 0x2000)) (by decide +kernel)⟩

/-- The release of ColdReset# while Reset# is active, and while it is not. -/
theorem witness_ColdResetState :
    (let s := kern.assertReset.assertColdReset.releaseColdReset .reset
     s.inputs.coldReset = some .reset ∧ s.inputs.resetPin = true) ∧
    (let s := kern.assertColdReset.releaseColdReset .reset
     s.inputs.coldReset = some .reset ∧ s.inputs.resetPin = false) := by
  decide +kernel

theorem witness_SoftResetAndNmi :
    (let s := inp (fun i => { i with softReset := true }) (slot kern)
     s.inputs.coldReset = none ∧ s.inputs.softReset = true) ∧
    (let s := (inp (fun i => { i with nmiPending := 2 }) kern).setRunState .standby
     s.inputs.coldReset = none ∧ s.inputs.softReset = false ∧ s.runState ≠ .held ∧ s.inputs.nmiPending ≠ 0) ∧
    (let s := kern.setRunState .held
     s.inputs.coldReset = none ∧ s.inputs.softReset = false ∧ s.runState = .held) ∧
    (let s := inp (fun i => { i with cacheErr := some 0x41 }) kern
     s.inputs.coldReset = none ∧ s.inputs.softReset = false ∧ s.runState ≠ .held ∧ s.inputs.nmiPending = 0 ∧
       s.status.de = false ∧ s.inputs.cacheErr = some 0x41) ∧
    (withStatus { kernelStatus with de := true }).status.de = true := by
  decide +kernel

/-- The reset pins: a warm reset, and the release of Reset# after a cold one. -/
theorem witness_SoftResetAndNmi_pins :
    (let s := kern.assertReset
     s.inputs.resetPin = true ∧ s.inputs.coldResetPin = false ∧ s.inputs.coldStart = false) ∧
    (let s := kern.assertReset.assertColdReset
     s.inputs.coldResetPin = true ∧ (let t := s.releaseColdReset .reset
       t.inputs.resetPin = true ∧ t.inputs.coldResetPin = false ∧ t.inputs.coldStart = true)) := by
  decide +kernel

/-- A cold reset with Reset# active leaves the processor held; releasing Reset# then starts it, with no soft reset. -/
theorem test_cold_reset_sequence :
    got (fun t => (t.runState, t.pc, t.status.sr)) (({ kern with env := [[.resetAsserted, .coldResetAsserted,
      .coldResetDeasserted .reset]] }).deliver.afterEvents) = some (.held, resetVector, false) ∧
    (let s := ({ kern with env := [[.resetAsserted, .coldResetAsserted, .coldResetDeasserted .reset]] }).deliver
     (((s.coldResetWith .reset).releaseReset).runState, (s.coldResetWith .reset).releaseReset.inputs.softReset) =
       (.running, false)) := by
  decide +kernel

/-- Two requests give two NMIs. -/
theorem test_two_nmi_requests :
    let s := { kern with env := [[.nmiEdge, .externalWrite 0x400040]] }
    s.deliver.inputs.nmiPending = 2 ∧ got (·.inputs.nmiPending) s.deliver.afterEvents = some 1 := by
  decide +kernel

theorem witness_ZeroRegister :
    (5 : RegNum) ≠ 0 ∧ (0 : RegNum) ≠ 5 ∧
      (let s := gp [(1, 0x7FFFFFFF), (2, 1)] kern
       ¬ InWord ((low (s.reg 1)).toInt + (low (s.reg 2)).toInt)) := by
  unfold InWord; decide +kernel

theorem witness_WordAddSubtract :
    let s := gp [(1, 0x7FFFFFFE), (2, 1), (3, 0xFFFFFFFF80000001)] kern
    InWord ((low (s.reg 1)).toInt + (1 : BitVec 16).toInt) ∧ InWord ((low (s.reg 1)).toInt + (low (s.reg 2)).toInt) ∧
      InWord ((low (s.reg 3)).toInt - (low (s.reg 2)).toInt) := by
  unfold InWord; decide +kernel

theorem witness_IntegerOverflowRaises :
    let s := gp [(1, 0x7FFFFFFF), (2, 1), (3, 0xFFFFFFFF80000000), (4, 0x7FFFFFFFFFFFFFFF), (5, 0x8000000000000000)]
      wideUser
    ¬ InWord ((low (s.reg 1)).toInt + (1 : BitVec 16).toInt) ∧
      ¬ InWord ((low (s.reg 1)).toInt + (low (s.reg 2)).toInt) ∧
      ¬ InWord ((low (s.reg 3)).toInt - (low (s.reg 2)).toInt) ∧ s.status.ops64 = true ∧
      ¬ InDword ((s.reg 4).toInt + (1 : BitVec 16).toInt) ∧ ¬ InDword ((s.reg 4).toInt + (s.reg 2).toInt) ∧
      ¬ InDword ((s.reg 5).toInt - (s.reg 2).toInt) := by
  unfold InWord InDword; decide +kernel

/-- The last values that fit. -/
theorem witness_IntegerOverflowRaises_fits :
    let s := gp [(1, 0x7FFFFFFE), (2, 1), (3, 0xFFFFFFFF80000001), (4, 0x7FFFFFFFFFFFFFFE), (5, 0x8000000000000001)]
      wideUser
    InWord ((low (s.reg 1)).toInt + (1 : BitVec 16).toInt) ∧ InWord ((low (s.reg 1)).toInt + (low (s.reg 2)).toInt) ∧
      InWord ((low (s.reg 3)).toInt - (low (s.reg 2)).toInt) ∧ s.status.ops64 = true ∧
      InDword ((s.reg 4).toInt + (1 : BitVec 16).toInt) ∧ InDword ((s.reg 4).toInt + (s.reg 2).toInt) ∧
      InDword ((s.reg 5).toInt - (s.reg 2).toInt) ∧ s.status.exl = false := by
  unfold InWord InDword; decide +kernel

theorem witness_DoublewordAddSubtract :
    let s := gp [(2, 1), (4, 0x7FFFFFFFFFFFFFFE), (5, 0x8000000000000001)] wideUser
    s.status.ops64 = true ∧ InDword ((s.reg 4).toInt + (1 : BitVec 16).toInt) ∧
      InDword ((s.reg 4).toInt + (s.reg 2).toInt) ∧ InDword ((s.reg 5).toInt - (s.reg 2).toInt) := by
  unfold InDword; decide +kernel

theorem witness_ComparesAndConditionalMoves : wideUser.status.mips4 = true ∧ kern.status.mips4 = true := by decide +kernel

/-- LeadingBitCounts, DoublewordShifts and Rotates ask for 64-bit operations only. -/
theorem witness_sixty_four_bit : wideUser.status.ops64 = true ∧ kern.status.ops64 = true := by decide +kernel

theorem witness_WordMultiplyDivide :
    (let s := gp [(1, 0xFFFFFFFF80000000), (2, 0xFFFFFFFFFFFFFFFF)] kern
     isSext (s.reg 1) = true ∧ isSext (s.reg 2) = true ∧ low (s.reg 2) ≠ 0) ∧
    (let s := gp [(1, 0x80000000), (2, 3)] kern
     (isSext (s.reg 1) && isSext (s.reg 2)) = false ∧
       (isSext (s.reg 1) && isSext (s.reg 2) && low (s.reg 2) != 0) = false) ∧
    (let s := gp [(1, 7)] kern
     (isSext (s.reg 1) && isSext (s.reg 2) && low (s.reg 2) != 0) = false) := by
  decide +kernel

theorem witness_DoublewordMultiplyDivide :
    (let s := wideUser; s.status.ops64 = true ∧ s.reg 2 = 0) ∧
    (let s := gp [(2, 0xFFFFFFFFFFFFFFFF)] wideUser; s.status.ops64 = true ∧ s.reg 2 ≠ 0) := by
  decide +kernel

theorem witness_HiLoMoves :
    (∃ t, exec (.mult 1 2) kern = .next t ∧ t.hiLoFresh = true) ∧
      (∃ t, exec (.mflo 1) (kern.setHiLoFresh true) = .next t ∧ t.hiLoFresh = false) ∧
      (∃ t, exec (.addu 1 2 3) (kern.setHiLoFresh true) = .next t ∧ t.hiLoFresh = true) := by
  exact ⟨next_of_got (f := (·.hiLoFresh)) (by decide +kernel), next_of_got (f := (·.hiLoFresh)) (by decide +kernel),
    next_of_got (f := (·.hiLoFresh)) (by decide +kernel)⟩

theorem witness_AlignedLoads :
    Accessible cached (cached.reg 1 + (7 : BitVec 16).signExtend 64) 1 false 0x2007 3 ∧
      Accessible cached (cached.reg 1 + (6 : BitVec 16).signExtend 64) 2 false 0x2006 3 ∧
      Accessible cached (cached.reg 1 + (4 : BitVec 16).signExtend 64) 4 false 0x2004 3 ∧
      Accessible cached (cached.reg 1 + (0xFFF8 : BitVec 16).signExtend 64) 8 false 0x1FF8 3 ∧
      cached.status.ops64 = true := by
  unfold Accessible; decide +kernel

theorem witness_MemoryItems :
    cached.Canonical ∧ (8 : Nat) ≤ 8 ∧ (7 : Nat) < 8 ∧ 8 * 8 ≤ (64 : Nat) ∧ (1 : Nat) ≤ 8 ∧ (0 : Nat) < 1 := by
  unfold State.Canonical; decide +kernel

theorem witness_LeftRightLoads :
    Accessible cached (cached.reg 1 + (0 : BitVec 16).signExtend 64) 1 false 0x2000 3 ∧
      Accessible (big cached) ((big cached).reg 1 + (7 : BitVec 16).signExtend 64) 1 false 0x2007 3 ∧
      cached.status.ops64 = true ∧ (big cached).status.ops64 = true := by
  unfold Accessible; decide +kernel

theorem witness_LoadLinked :
    Accessible cached (cached.reg 1 + (4 : BitVec 16).signExtend 64) 4 false 0x2004 3 ∧ isCacheable 3 = true ∧
      Accessible uncached (uncached.reg 1 + (4 : BitVec 16).signExtend 64) 4 false 0x2004 2 ∧ isCacheable 2 = false ∧
      Accessible cached (cached.reg 1 + (8 : BitVec 16).signExtend 64) 8 false 0x2008 3 ∧
      Accessible uncached (uncached.reg 1 + (8 : BitVec 16).signExtend 64) 8 false 0x2008 2 ∧
      cached.status.ops64 = true ∧ uncached.status.ops64 = true := by
  unfold Accessible; decide +kernel

theorem witness_AlignedStores :
    cached.Canonical ∧ Accessible cached (cached.reg 1 + (7 : BitVec 16).signExtend 64) 1 true 0x2007 3 ∧
      Accessible cached (cached.reg 1 + (6 : BitVec 16).signExtend 64) 2 true 0x2006 3 ∧
      Accessible cached (cached.reg 1 + (4 : BitVec 16).signExtend 64) 4 true 0x2004 3 ∧
      Accessible cached (cached.reg 1 + (8 : BitVec 16).signExtend 64) 8 true 0x2008 3 ∧
      cached.status.ops64 = true := by
  unfold Accessible State.Canonical; decide +kernel

theorem witness_LeftRightStores :
    cached.Canonical ∧ Accessible cached (cached.reg 1 + (0 : BitVec 16).signExtend 64) 1 true 0x2000 3 ∧
      Accessible (big cached) ((big cached).reg 1 + (7 : BitVec 16).signExtend 64) 1 true 0x2007 3 ∧
      (big cached).Canonical ∧ cached.status.ops64 = true := by
  unfold Accessible State.Canonical; decide +kernel

/-- Every clause but those that read the free bit; `linked` is not disturbed. -/
theorem witness_StoreConditional :
    cached.Canonical ∧ linked.Canonical ∧
    (let va := cached.reg 1 + (0 : BitVec 16).signExtend 64
     cached.dataAddr va 4 true = .ok (0x2000, 3) ∧ cached.dataAddr va 8 true = .ok (0x2000, 3) ∧
       cached.llBit = false ∧ cached.status.ops64 = true) ∧
    (let va := linked.reg 1 + (8 : BitVec 16).signExtend 64
     linked.dataAddr va 4 true = .ok (0x2008, 3) ∧ linked.dataAddr va 8 true = .ok (0x2008, 3) ∧
       linked.llBit = true ∧ linked.linkAddr ≠ 0x2008 ∧ linked.status.ops64 = true) ∧
    (let va := linked.reg 1 + (0 : BitVec 16).signExtend 64
     linked.dataAddr va 4 true = .ok (0x2000, 3) ∧ linked.dataAddr va 8 true = .ok (0x2000, 3) ∧
       linked.llBit = true ∧ linked.linkAddr = 0x2000 ∧ linked.llDisturbed = false ∧
       linked.accessFault 0x2000 3 true = none) := by
  unfold State.Canonical; decide +kernel

/-- After another access the free bit, which nothing constrains, selects one of the two clauses that read it. -/
theorem witness_StoreConditional_disturbed :
    let s := linked.noteAccess
    s.Canonical ∧ s.dataAddr (s.reg 1 + (0 : BitVec 16).signExtend 64) 4 true = .ok (0x2000, 3) ∧
      s.dataAddr (s.reg 1 + (0 : BitVec 16).signExtend 64) 8 true = .ok (0x2000, 3) ∧ s.llBit = true ∧
      s.linkAddr = 0x2000 ∧ s.llDisturbed = true ∧ s.accessFault 0x2000 3 true = none ∧
      ((s.free 0).getLsbD 0 = false ∨ (s.free 0).getLsbD 0 = true) := by
  refine ⟨by unfold State.Canonical; decide +kernel, by decide +kernel, by decide +kernel, by decide +kernel,
    by decide +kernel, by decide +kernel, by decide +kernel, ?_⟩
  cases (linked.noteAccess.free 0).getLsbD 0 <;> simp

/-- A load, a load-linked and an instruction that is neither, from a state that has raised nothing. -/
theorem witness_StoreConditional_marks :
    linked.raised = false ∧ (∃ t, exec (.lw 1 2 0) linked = .next t ∧ (t.raised, t.llDisturbed) = (false, true)) ∧
      (∃ t, exec (.ll 1 2 0) linked.noteAccess = .next t ∧ (t.raised, t.llDisturbed) = (false, false)) ∧
      (∃ t, exec (.addu 1 2 3) linked.noteAccess = .next t ∧ t.llDisturbed = true) ∧
      (∃ t, exec (.syscall 0) linked = .next t ∧ t.raised = true) := by
  exact ⟨by decide +kernel, next_of_got (f := fun t => (t.raised, t.llDisturbed)) (by decide +kernel),
    next_of_got (f := fun t => (t.raised, t.llDisturbed)) (by decide +kernel),
    next_of_got (f := (·.llDisturbed)) (by decide +kernel), next_of_got (f := (·.raised)) (by decide +kernel)⟩

/-- Each clause of DataAccessExceptions: unmapped, misaligned, illegal, bus error. -/
theorem witness_DataAccessExceptions :
    (let s := gp [(1, 0x8000)] kern; let va := s.reg 1 + (0 : BitVec 16).signExtend 64
     s.dataAddr va 4 true = .error (.tlbRefill va true false) ∧
       s.dataAddr va 8 true = .error (.tlbRefill va true false) ∧ s.llBit = false ∧ s.status.ops64 = true) ∧
    (let va := cached.reg 1 + (1 : BitVec 16).signExtend 64
     cached.dataAddr va 2 false = .error (.addressErrorData va false) ∧
       cached.dataAddr va 4 true = .error (.addressErrorData va true) ∧
       cached.dataAddr va 8 false = .error (.addressErrorData va false) ∧
       cached.dataAddr va 8 true = .error (.addressErrorData va true)) ∧
    (let s := gp [(1, 0x80000000)] kern; let va := s.reg 1 + (0 : BitVec 16).signExtend 64
     s.dataAddr va 1 false = .error (.addressErrorData va false) ∧
       s.dataAddr va 1 true = .error (.addressErrorData va true) ∧ s.status.ops64 = true) ∧
    (let s := inp (fun i => { i with busErrData := true }) cached
     s.dataAddr (s.reg 1 + (0 : BitVec 16).signExtend 64) 4 false = .ok (0x2000, 3) ∧
       s.accessFault 0x2000 3 false = some .busErrorData) := by
  decide +kernel

/-- SC and SCD with the LL bit set: a bus error, and the watched doubleword. -/
theorem witness_DataAccessExceptions_conditional :
    (let s := inp (fun i => { i with busErrData := true }) linked
     let va := s.reg 1 + (0 : BitVec 16).signExtend 64
     s.dataAddr va 4 true = .ok (0x2000, 3) ∧ s.dataAddr va 8 true = .ok (0x2000, 3) ∧ s.status.ops64 = true ∧
       s.llBit = true ∧ s.linkAddr = 0x2000 ∧ s.llDisturbed = false ∧ s.noteAccess.llDisturbed = true ∧
       s.accessFault 0x2000 3 true = some .busErrorData) ∧
    (let s := linked.setCp0 { linked.cp0 with watchLo := { paddr0 := 0x400, r := false, w := true } }
     s.accessFault 0x2004 3 true = some .watch ∧ s.accessFault 0x2004 3 false = none ∧
       s.accessFault 0x2008 3 true = none) := by
  decide +kernel

/-- The last legal and the first illegal address of each range of AddressCheck. -/
theorem witness_AddressCheck :
    let u32 := bare.status; let u64 := wideUser.status
    let s32 := { kernelStatus with ksu := 1 }; let s64 := { kernelStatus with ksu := 1, sx := true }
    let k32 := kernelStatus; let k64 := { kernelStatus with kx := true }
    (∀ p ∈ ([(u32, 0x7FFFFFFF, 0x80000000), (u64, 0xFFFFFFFFFF, 0x10000000000), (s32, 0x7FFFFFFF, 0x80000000),
      (s32, 0xFFFFFFFFC0000000, 0xFFFFFFFFBFFFFFFF), (s32, 0xFFFFFFFFDFFFFFFF, 0xFFFFFFFFE0000000),
      (s64, 0x400000FFFFFFFFFF, 0x4000010000000000), (s64, 0xFFFFFFFFDFFFFFFF, 0xFFFFFFFFE0000000),
      (k32, 0xFFFFFFFF80000000, 0xFFFFFFFF7FFFFFFF), (k32, 0x7FFFFFFF, 0x80000000),
      (k64, 0xFFFFFFFFFF, 0x10000000000), (k64, 0x400000FFFFFFFFFF, 0x4000010000000000),
      (k64, 0xB800000FFFFFFFFF, 0xB800001000000000), (k64, 0xC00000FF7FFFFFFF, 0xC00000FF80000000),
      (k64, 0xFFFFFFFF80000000, 0xFFFFFFFF7FFFFFFF)] : List (Status × Dword × Dword)),
      addrLegal p.1 p.2.1 = true ∧ addrLegal p.1 p.2.2 = false) ∧
    (u32.mode, u32.addr64) = (.user, false) ∧ (u64.mode, u64.addr64) = (.user, true) ∧
    (s32.mode, s32.addr64) = (.supervisor, false) ∧ (s64.mode, s64.addr64) = (.supervisor, true) ∧
    (k32.mode, k32.addr64) = (.kernel, false) ∧ (k64.mode, k64.addr64) = (.kernel, true) := by
  decide +kernel

theorem witness_AddressCheck_fetch :
    (0xFFFFFFFF80000001 : Dword).toNat % 2 ≠ 0 ∧
    (let s := { kern with pc := 0xFFFFFFFF80001002 }; s.pc.toNat % 4 ≠ 0) ∧
    (let s := { bare with pc := 0x80000000 }
     s.pc.toNat % 4 = 0 ∧ s.instrAddr = .error (.addressErrorFetch 0x80000000)) ∧
    (let s := { bare with pc := 0x7FFFFFFC }
     s.pc.toNat % 4 = 0 ∧ s.instrAddr = .error (.tlbRefill 0x7FFFFFFC false false)) ∧
    bare.dataAddr 0x7FFFFFFC 4 true = .error (.tlbRefill 0x7FFFFFFC true false) := by
  decide +kernel

theorem witness_UnmappedSegments :
    kern.status.mode = .kernel ∧ (0xFFFFFFFF80000000 : Dword).toNat % 8 = 0 ∧
      0xFFFFFFFF80000000 ≤ (0xFFFFFFFF9FFFFFF8 : Dword).toNat ∧
      (0xFFFFFFFF9FFFFFF8 : Dword).toNat < 0xFFFFFFFFA0000000 ∧
      0xFFFFFFFFA0000000 ≤ (0xFFFFFFFFBFFFFFF8 : Dword).toNat ∧
      (0xFFFFFFFFBFFFFFF8 : Dword).toNat < 0xFFFFFFFFC0000000 ∧ State.reset.status.mode = .kernel ∧
      State.reset.status.erl = true ∧ (0x7FFFFFF8 : Dword).toNat < 0x80000000 ∧ (0x7FFFFFF8 : Dword).toNat % 8 = 0 := by
  decide +kernel

/-- Both ends of the last space of xkphys, on both buses, and a mapped address. -/
theorem witness_UnmappedSegments_xkphys :
    let s := withStatus { kernelStatus with kx := true }
    s.status.mode = .kernel ∧ s.status.addr64 = true ∧ (0x9800000123456788 : Dword).toNat % 8 = 0 ∧
      0x8000000000000000 ≤ (0xB800000FFFFFFFF8 : Dword).toNat ∧ (0xB800000FFFFFFFF8 : Dword).toNat < 0xC000000000000000 ∧
      (0xB800000FFFFFFFF8 : Dword).toNat % 2 ^ 59 < 2 ^ 36 ∧
      s.dataAddr 0x9800000123456788 8 true = .ok (0x123456788, 3) ∧
      ({ s with pins := { s.pins with busMode64 := false } }).dataAddr 0x9800000123456788 8 true = .ok (0x23456788, 3) ∧
      segmentOf s.status s.cp0.config.k0 0xC000000000000000 = .mapped := by
  decide +kernel

/-- Entry 1 is an invalid pair of pages of the largest size. -/
def widePage : State := kern.setTlb 1 { TlbEntry.zero with mask := 0x3FFFF }

/-- Entry 0 maps 0x4000 (writable) and 0x5000 (not writable), no entry 0x8000, the other forty-seven 0. -/
theorem witness_TlbTranslation :
    mapped.tlbHits 0 4 = [] ∧ 2 ≤ (mapped.tlbHits 0 0).length ∧ mapped.tlbHits 0 2 = [(mapped.tlb[0], 0)] ∧
    (mapped.tlb[0].half 0x4000).v = true ∧ (mapped.tlb[0].half 0x4000).d = true ∧
    (mapped.tlb[0].half 0x5000).v = true ∧ (mapped.tlb[0].half 0x5000).d = false ∧
    mapped.tlb[0].mask = BitVec.ofNat 18 (2 ^ 0 - 1) ∧ mapped.pins.busMode64 = true ∧
    widePage.tlbHits 0 0x30000 = [(widePage.tlb[1], 1)] ∧ (widePage.tlb[1].half 0x60000000).v = false ∧
    widePage.tlb[1].mask = BitVec.ofNat 18 (2 ^ 18 - 1) := by
  decide +kernel

/-- A fetch through the TLB: translated, with no entry, with several, with an invalid one. -/
theorem witness_TlbTranslation_fetch :
    { mapped with pc := 0x4010 }.instrAddr = .ok (0x3010, 3) ∧
    { mapped with pc := 0x8000 }.instrAddr = .error (.tlbRefill 0x8000 false false) ∧
    { mapped with pc := 0 }.instrAddr = .error (.tlbRefill 0 false true) ∧
    { widePage with pc := 0x60000000 }.instrAddr = .error (.tlbInvalid 0x60000000 false) := by
  decide +kernel

theorem witness_TlbTranslation_addresses :
    (0x4000 : Dword).toNat % 4 = 0 ∧ addrLegal mapped.status 0x4000 = true ∧
      segmentOf mapped.status mapped.cp0.config.k0 0x4000 = .mapped ∧
      (0x5000 : Dword).toNat % 4 = 0 ∧ addrLegal mapped.status 0x5000 = true ∧
      segmentOf mapped.status mapped.cp0.config.k0 0x5000 = .mapped ∧
      (0x8000 : Dword).toNat % 4 = 0 ∧ addrLegal mapped.status 0x8000 = true ∧
      segmentOf mapped.status mapped.cp0.config.k0 0x8000 = .mapped ∧
      (0 : Dword).toNat % 4 = 0 ∧ addrLegal mapped.status 0 = true ∧
      segmentOf mapped.status mapped.cp0.config.k0 0 = .mapped ∧
      (0x60000000 : Dword).toNat % 4 = 0 ∧ addrLegal widePage.status 0x60000000 = true ∧
      segmentOf widePage.status widePage.cp0.config.k0 0x60000000 = .mapped := by
  decide +kernel

/-- An entry that matches by ASID, by MASK, and in the low 19 bits of VPN2 alone in 32-bit addressing mode. -/
theorem witness_TlbTranslation_match :
    let e : TlbEntry := { TlbEntry.zero with mask := 3, r := 2, vpn2 := 0x80010, asid := 7 }
    e.hits false 0 0x13 7 = true ∧ e.hits false 0 0x13 6 = false ∧ e.hits false 0 0x17 7 = false ∧
      e.hits true 2 0x80013 7 = true ∧ e.hits true 0 0x80013 7 = false ∧ e.hits true 2 0x13 7 = false ∧
      ({ e with g := true }).hits true 2 0x80012 6 = true := by
  decide +kernel

theorem witness_ConditionalBranches : kern.inDelay = false := by decide +kernel

theorem witness_JumpInstructions : kern.inDelay = false ∧ (1 : RegNum) ≠ 31 ∧ (31 : RegNum) = 31 := by decide +kernel

theorem witness_ControlTransferInDelaySlotStops :
    (let s := slot kern
     s.inDelay = true ∧ s.status.cp0Usable = true ∧ s.status.cu1 = true ∧ ((7 : BitVec 3) = 0 ∨ s.status.mips4 = true)) ∧
    (slot bare).inDelay = true ∧ (slot bare).status.cp0Usable = false ∧
    ((slot userFpu).inDelay = true ∧ (slot userFpu).status.cu1 = true ∧ (0 : BitVec 3) = 0 ∧
      (slot userFpu).status.mips4 = false) := by
  decide +kernel

theorem witness_ConditionBranches :
    kern.inDelay = false ∧ kern.status.cp0Usable = true ∧ kern.status.cu1 = true ∧
      ((7 : BitVec 3) = 0 ∨ kern.status.mips4 = true) ∧ userFpu.status.cu1 = true ∧ (0 : BitVec 3) = 0 ∧
      userFpu.status.mips4 = false := by
  decide +kernel

theorem witness_NoOperationsAndCache :
    wideUser.status.mips4 = true ∧ wideUser.status.cu1 = true ∧ kern.status.cp0Usable = true ∧
    kern.dataAddr (kern.reg 1 + (0x8000 : BitVec 16).signExtend 64) 1 false =
      .error (.tlbRefill 0xFFFFFFFFFFFF8000 false false) ∧
    cached.status.cp0Usable = true ∧
    cached.dataAddr (cached.reg 1 + (0 : BitVec 16).signExtend 64) 1 false = .ok (0x2000, 3) ∧
    uncached.dataAddr (uncached.reg 1 + (0 : BitVec 16).signExtend 64) 1 false = .ok (0x2000, 2) ∧
    uncached.status.cp0Usable = true ∧ isCacheable 3 = true ∧ isCacheable 2 = false ∧ cached.Canonical ∧
    cached.inputs.busErrData = false ∧
    (let s := inp (fun i => { i with busErrData := true }) cached
     s.inputs.busErrData = true ∧ s.status.cp0Usable = true ∧
       s.dataAddr (s.reg 1 + (0 : BitVec 16).signExtend 64) 1 false = .ok (0x2000, 3)) ∧
    (0x02 : BitVec 5) ∉ ([0x00, 0x01, 0x04, 0x05, 0x08, 0x09, 0x0D, 0x10, 0x11, 0x14, 0x15, 0x19, 0x1C,
      0x1D] : List (BitVec 5)) ∧
    (0x00 : BitVec 5) ∉ ([0x04, 0x05, 0x0D] : List (BitVec 5)) := by
  unfold State.Canonical; decide +kernel

theorem witness_Cp0Reads :
    kern.status.cp0Usable = true ∧ kern.status.ops64 = true ∧ (0 : RegNum) ≠ 1 ∧ isReservedCp0 0 = false ∧
      isReservedCp0 30 = false ∧ isReservedCp0 31 = true ∧ kern.cp0.wired.toNat ≤ 47 ∧
      (30 : RegNum) ∈ ([2, 3, 4, 8, 10, 14, 20, 30] : List RegNum) ∧
      (12 : RegNum) ∉ ([2, 3, 4, 8, 10, 14, 20, 30] : List RegNum) := by
  decide +kernel

theorem witness_Cp0Writes :
    kern.status.cp0Usable = true ∧ kern.status.ops64 = true ∧ isReservedCp0 31 = true ∧
      (2 : RegNum) ∈ ([2, 3, 4, 8, 10, 14, 20, 30] : List RegNum) ∧
      (12 : RegNum) ∉ ([2, 3, 4, 8, 10, 14, 20, 30] : List RegNum) ∧ isReservedCp0 12 = false := by
  decide +kernel

theorem witness_PerformanceRegisterMoves :
    kern.status.cp0Usable = true ∧ (2 : BitVec 5) ≠ 0 ∧ (2 : BitVec 5) ≠ 1 ∧ (31 : BitVec 5) ≠ 0 := by decide +kernel

/-- EntryHi selects no entry, entry 0, or the other forty-seven. -/
theorem witness_TlbInstructions :
    mapped.status.cp0Usable = true ∧ mapped.tlbHits 0 4 = [] ∧ mapped.tlbHits 0 2 = [(mapped.tlb[0], 0)] ∧
      2 ≤ (mapped.tlbHits mapped.cp0.entryHi.r mapped.cp0.entryHi.vpn2).length ∧
      mapped.tlb[mapped.cp0.index.index.toNat]? = some mapped.tlb[0] ∧ mapped.status.addr64 = false ∧
      (wideUser.setStatus { kernelStatus with kx := true }).status.addr64 = true ∧
      legalMask mapped.cp0.pageMask = true ∧ mapped.cp0.index.index.toNat ≤ 47 ∧ mapped.cp0.wired.toNat ≤ 47 := by
  decide +kernel

theorem witness_TlbInstructions_probe :
    (let s := mapped.setCp0 { mapped.cp0 with entryHi := { r := 0, fill := 0, vpn2 := 4, asid := 0 } }
     s.status.cp0Usable = true ∧ s.tlbHits s.cp0.entryHi.r s.cp0.entryHi.vpn2 = []) ∧
    (let s := mapped.setCp0 { mapped.cp0 with entryHi := { r := 0, fill := 0, vpn2 := 2, asid := 0 } }
     s.status.cp0Usable = true ∧ s.tlbHits s.cp0.entryHi.r s.cp0.entryHi.vpn2 = [(mapped.tlb[0], 0)]) := by
  decide +kernel

/-- The sizes of Table 5-11, as values of the register. -/
theorem witness_TlbInstructions_sizes :
    ([0x00000000, 0x00006000, 0x0001E000, 0x0007E000, 0x001FE000, 0x007FE000, 0x01FFE000, 0x07FFE000, 0x1FFFE000,
      0x7FFFE000] : List Word).all (fun w => legalMask (w.extractLsb' 13 18)) = true := by
  decide +kernel

theorem witness_TlbInstructions_stops :
    (let s := kern.setCp0 { kern.cp0 with index := { p := false, index := 48 } }
     s.status.cp0Usable = true ∧ 48 ≤ s.cp0.index.index.toNat) ∧
    (let s := kern.setCp0 { kern.cp0 with pageMask := 1, index := { p := false, index := 47 } }
     s.status.cp0Usable = true ∧ legalMask s.cp0.pageMask = false ∧ s.cp0.index.index.toNat ≤ 47) := by
  decide +kernel

theorem witness_ReturnAndStandby :
    kern.status.cp0Usable = true ∧ kern.inDelay = false ∧ kern.status.exl = false ∧ kern.status.erl = false ∧
      State.reset.status.cp0Usable = true ∧ State.reset.inDelay = false ∧
      (State.reset.inDelay || State.reset.status.exl || State.reset.status.erl) = true ∧
      (slot kern).status.cp0Usable = true ∧
      ((slot kern).inDelay || (slot kern).status.exl || (slot kern).status.erl) = true := by
  decide +kernel

/-- TakingAnException holds for every exception and state; its clauses are about these. -/
theorem witness_TakingAnException :
    kern.status.exl = false ∧ (withStatus { kernelStatus with exl := true }).status.exl = true ∧
      kern.status.addr64 = false ∧ (withStatus { kernelStatus with kx := true }).status.addr64 = true ∧
      (∃ store m, Exc.tlbRefill 0x8000 true false = .tlbRefill 0x8000 store m) ∧
      Exc.coprocessorUnusable 1 = .coprocessorUnusable 1 ∧ kern.jrTarget = false ∧
      (0xFFFFFFFFC0002000 : Dword) = ((0xFFFFFFFFC0002000 : Dword).setWidth 32).signExtend 64 := by
  refine ⟨by decide +kernel, by decide +kernel, by decide +kernel, by decide +kernel, ⟨_, _, rfl⟩, rfl,
    by decide +kernel, by decide +kernel⟩

/-- A refill goes through the vector of the space its address lies in: the ends of the ranges of rule R1004. -/
theorem witness_TakingAnException_vectors :
    let goesTo (f : Status → Status) (pc : Dword) (l : List Dword) : Bool :=
      l.all fun va => (takeException (.tlbRefill va false false) (withStatus (f kernelStatus))).pc == pc
    goesTo (fun st => { st with ux := true }) 0xFFFFFFFF80000080 [0x0, 0x3FFFFFFFFFFFFFFF] = true ∧
    goesTo (fun st => { st with sx := true }) 0xFFFFFFFF80000080
      [0x4000000000000000, 0x7FFFFFFFFFFFFFFF, 0xFFFFFFFFC0000000, 0xFFFFFFFFDFFFFFFF] = true ∧
    goesTo (fun st => { st with kx := true }) 0xFFFFFFFF80000080
      [0xC000000000000000, 0xFFFFFFFFBFFFFFFF, 0xFFFFFFFFE0000000, 0xFFFFFFFFFFFFFFFF] = true ∧
    goesTo (fun st => { st with sx := true, kx := true }) 0xFFFFFFFF80000000 [0x0] = true ∧
    goesTo (fun st => { st with ux := true, exl := true }) 0xFFFFFFFF80000180 [0x0] = true := by
  decide +kernel

theorem witness_CoprocessorUnusable :
    opOf (encode (.mfc0 2 9)) = 0b010000#6 ∧ opOf (encode (.cache 1 2 3)) = 0b101111#6 ∧
      bare.status.cp0Usable = false ∧ opOf (encode (.fpAddS 1 2 3)) = 0b010001#6 ∧
      opOf (encode (.fpMaddS 1 2 3 4)) = 0b010011#6 ∧ opOf (encode (.lwc1 1 2 3)) = 0b110001#6 ∧
      opOf (encode (.ldc1 1 2 3)) = 0b110101#6 ∧ opOf (encode (.swc1 1 2 3)) = 0b111001#6 ∧
      opOf (encode (.sdc1 1 2 3)) = 0b111101#6 ∧ opOf (encode (.movf 1 2 3)) = 0b000000#6 ∧
      fnOf (encode (.movf 1 2 3)) = 0b000001#6 ∧ bare.status.cu1 = false := by
  decide +kernel

theorem witness_InstructionsOutsideTheirMode :
    userFpu.status.ops64 = false ∧ userFpu.status.cu1 = true ∧ userFpu.status.mips4 = false ∧ (1 : BitVec 3) ≠ 0 ∧
      (let s := withStatus { userStatus with cu0 := true }
       s.status.ops64 = false ∧ s.status.cp0Usable = true) := by
  decide +kernel

theorem witness_OddFpRegistersStop :
    narrow.status.cu1 = true ∧ narrow.status.mips4 = true ∧ narrow.status.ops64 = true ∧ narrow.status.fr = false ∧
      ((31 : RegNum).getLsbD 0 || (0 : RegNum).getLsbD 0) = true ∧
      ((0 : RegNum).getLsbD 0 || (1 : RegNum).getLsbD 0) = true ∧
      (let s := withStatus { userStatus with cu1 := true, fr := false }
       s.status.cu1 = true ∧ s.status.fr = false ∧ s.status.mips4 = false ∧ s.status.ops64 = false ∧
         (0 : BitVec 3) = 0) := by
  decide +kernel

/-- Odd and even registers, both settings of FR, and the two top bits that an indexed access keeps or changes. -/
theorem witness_FpLoadsAndStores :
    cached.status.cu1 = true ∧ cached.Canonical ∧
    Accessible cached (cached.reg 1 + (8 : BitVec 16).signExtend 64) 4 false 0x2008 3 ∧
    Accessible cached (cached.reg 1 + (8 : BitVec 16).signExtend 64) 8 false 0x2008 3 ∧
    Accessible cached (cached.reg 1 + (8 : BitVec 16).signExtend 64) 4 true 0x2008 3 ∧
    Accessible cached (cached.reg 1 + (8 : BitVec 16).signExtend 64) 8 true 0x2008 3 ∧
    (!cached.status.fr && (31 : FprNum).getLsbD 0) = false ∧ (!narrow.status.fr && (31 : FprNum).getLsbD 0) = true ∧
    narrow.status.cu1 = true ∧ narrow.Canonical ∧ cached.status.mips4 = true ∧
    (let vx := cached.reg 1 + cached.reg 3
     vx.extractLsb' 62 2 = (cached.reg 1).extractLsb' 62 2 ∧ Accessible cached vx 4 false 0x2000 3 ∧
       Accessible cached (vx &&& ~~~7#64) 8 true 0x2000 3) ∧
    (let s := gp [(1, 0xFFFFFFFF80002000), (2, 0x80000000)] kern
     (s.reg 1 + s.reg 2).extractLsb' 62 2 ≠ (s.reg 1).extractLsb' 62 2) := by
  unfold Accessible State.Canonical; decide +kernel

theorem witness_FpLoadsAndStores_exceptions :
    (cached.dataAddr (cached.reg 1 + (4 : BitVec 16).signExtend 64) 8 false =
      .error (.addressErrorData 0xFFFFFFFF80002004 false)) ∧
    (let s := gp [(1, 0xFFFFFFFF80002000)] narrow
     Accessible s (s.reg 1 + (4 : BitVec 16).signExtend 64) 4 false 0x2004 0 ∧
       Accessible s (s.reg 1 + (8 : BitVec 16).signExtend 64) 8 true 0x2008 0) := by
  unfold Accessible; decide +kernel

theorem witness_FpMoves :
    kern.status.cu1 = true ∧ kern.status.ops64 = true ∧ kern.status.mips4 = true ∧ narrow.status.cu1 = true ∧
      narrow.status.fr = false ∧ (!narrow.status.fr && (31 : RegNum).getLsbD 0) = true ∧
      (30 : RegNum) ∉ ([0, 25, 26, 28, 31] : List RegNum) ∧
      fpTraps { kern.fcr31 with cause := 0b100000 } 0b100000 = true ∧ fpTraps kern.fcr31 0b000001 = false := by
  decide +kernel

/-- FpRegisterMoves, FpArithmetic, FpConversions and FpCompares ask for a usable FPU and, with FR = 0, even registers. -/
theorem witness_fpu_ready :
    FpReady kern [31, 1, 0, 5] ∧ FpReady narrow [30, 2, 0, 4] ∧ kern.status.mips4 = true ∧ kern.status.ops64 = true ∧
      userFpu.status.mips4 = false ∧ FpReady userFpu [31, 0] ∧ (0 : BitVec 3) = 0 := by
  unfold FpReady; decide +kernel

/-- A number, for the comparison with an infinity, from the largest to a denormalized one. -/
theorem witness_FpCompares :
    ([0x7F7FFFFF, 0x00000001, 0x80000000] : List Dword).all (fun w => (fpValue (FpFormat.single.decode w)).isSome) = true := by
  decide +kernel

/-- The cause bits that trap and those that do not: unimplemented always, the others when enabled. -/
theorem witness_fpu_traps :
    fpTraps kern.fcr31 0b100000 = true ∧ fpTraps kern.fcr31 0b011111 = false ∧
      fpTraps { kern.fcr31 with enables := 0b10000 } 0b010000 = true ∧
      fpTraps { kern.fcr31 with enables := 0b01111 } 0b010000 = false := by
  decide +kernel

/-- Operands of every class, the ends of the ranges of W and L, and the 2^55 of the conversions from L. -/
theorem witness_FpConversions :
    FpFormat.single.decode 0x4EFFFFFF = .finite false 0xFFFFFF 7 ∧ (roundToInt .nearest false 0xFFFFFF 7).1 ≤ 2 ^ 31 - 1 ∧
      (roundToInt .nearest false 1 31).1 = 2 ^ 31 ∧ (roundToInt .toZero true 1 53).1 = -2 ^ 53 ∧
      FpFormat.single.decode 0x7F800000 = .inf false ∧ FpFormat.single.decode 0x7FC00000 = .snan ∧
      FpFormat.single.decode 0x7FBFFFFF = .qnan ∧ FpFormat.single.decode 0x80000001 = .denormal true 1 (-149) ∧
      FpFormat.double.decode 0x8000000000000000 = .finite true 0 0 ∧
      (0x7FFFFFFFFFFFFF : Dword).toInt = 2 ^ 55 - 1 ∧ (0xFF80000000000000 : Dword).toInt = -2 ^ 55 := by
  decide +kernel

theorem witness_FpOperationsAreExact :
    (3 : Nat) ≠ 0 ∧ (5 : Nat) ≠ 0 ∧ 6 ≤ 2 * (3 : Nat) ∧ (2 ^ 53 - 1 : Nat) < 2 ^ 53 ∧
      (∃ x ∈ [Fp.snan, .denormal true 1 (-149)], x = .qnan ∨ ∃ c k h, x = Fp.denormal c k h) := by
  exact ⟨by decide +kernel, by decide +kernel, by decide +kernel, by decide +kernel,
    ⟨.denormal true 1 (-149), by simp, .inr ⟨_, _, _, rfl⟩⟩⟩

/-- The screen that stops and the one that lets through; products in and out of range; a zero sum. -/
theorem witness_FpOperationsAreExact_madd :
    let f := FpFormat.single
    fpScreen f [.snan, .qnan, .inf false] = some { cause := 0b100000, value := 0 } ∧
      fpScreen f [.inf false, .finite true 0 0, .snan] = some { cause := 0b010000, value := f.qnan } ∧
      fpScreen f [.inf false, .finite true 0 0, .finite true 3 1] = none ∧
      f.emax < f.exponent (f.normalize .nearest false (1 * 1) (64 + 64) false) ∧
      f.exponent (f.normalize .nearest false (1 * 1) (-100 + -27) false) < f.emin ∧
      f.emin ≤ f.exponent (f.normalize .nearest false (2 * 3) 0 false) ∧
      f.exponent (f.normalize .nearest false (2 * 3) 0 false) ≤ f.emax ∧
      fpMadd f kern.fcr31 true true (.finite false 6 0) (.finite false 2 0) (.finite false 3 0) =
        { cause := 0, value := 0x80000000 } := by
  decide +kernel

theorem witness_RoundingIsCorrect :
    (2 ^ 25 + 1 : Nat) ≠ 0 ∧ ratOf false (2 ^ 25 + 1) 0 ≤ (2 ^ 25 + 1 + 1 / 2 : Rat) ∧
      (2 ^ 25 + 1 + 1 / 2 : Rat) < ratOf false (2 ^ 25 + 1 + 1) 0 ∧
      (true = false ↔ (2 ^ 25 + 1 + 1 / 2 : Rat) = ratOf false (2 ^ 25 + 1) 0) ∧
      (true = true → 2 ^ (FpFormat.single.precision + 1) ≤ (2 ^ 25 + 1 : Nat)) := by
  refine ⟨by decide +kernel, ?_, ?_, ?_, by decide +kernel⟩ <;> norm_num [ratOf]

/-- Each range of the exponent in RoundingIsCorrect, and both settings of FS. -/
theorem witness_RoundingIsCorrect_ranges :
    let f := FpFormat.single
    f.emin ≤ f.exponent (f.normalize .nearest false 3 0 false) ∧
      f.exponent (f.normalize .nearest false 3 0 false) ≤ f.emax ∧
      f.emax < f.exponent (f.normalize .nearest false 1 128 false) ∧
      f.exponent (f.normalize .nearest false 1 (-127) false) < f.emin := by
  decide +kernel

theorem witness_UserModeKeepsSystemState :
    bare.status.mode = .user ∧ bare.status.cu0 = false ∧ bare.raised = false ∧
      ∃ t, exec (.addu 1 2 3) bare = .next t ∧ t.raised = false := by
  exact ⟨by decide +kernel, by decide +kernel, by decide +kernel,
    next_of_got (f := (·.raised)) (by decide +kernel)⟩

/-- Ready for InterruptsAtTheBoundary: running without and with a request, and in standby. -/
theorem witness_InterruptsAtTheBoundary :
    let on := inp (fun i => { i with intPin := 1 }) (withStatus { kernelStatus with ie := true, im := 4 })
    (∀ s ∈ ([kern, on, on.setRunState .standby] : List State), s.inputs.coldReset = none ∧ s.inputs.softReset = false ∧
      s.runState ≠ .held ∧ s.inputs.nmiPending = 0 ∧ s.pendingCacheError = none) ∧
    kern.runState = .running ∧ kern.intRequest = false ∧ on.runState = .running ∧ on.intRequest = true ∧
      (on.setRunState .standby).runState = .standby := by
  decide +kernel

/-- An instruction with an exception of its own, and one without, where an interrupt is pending. -/
theorem witness_InterruptsAtTheBoundary_own :
    let on := inp (fun i => { i with intPin := 1 }) (withStatus { kernelStatus with ie := true, im := 4 })
    (let s := on.withFetchWord 32 0x0000000C
     s.raised = false ∧ ∃ t, s.runInstr = .next t ∧ t.raised = true) ∧
    (let s := on.withFetchWord 32 0x24020005
     s.raised = false ∧ got (·.raised) s.runInstr = some false) := by
  exact ⟨⟨by decide +kernel, next_of_got (f := (·.raised)) (by decide +kernel)⟩, by decide +kernel, by decide +kernel⟩

theorem test_tick_and_external_write :
    (let s := kern.setCp0 { kern.cp0 with count := 0xFFFFFFFF }
     (s.deliverEvent .tick).cp0.count = 0 ∧ (s.deliverEvent .tick).inputs.timerReq = true) ∧
    (kern.deliverEvent (.externalWrite 0x41007F)).inputs.intReg = 0x41 ∧
    (kern.deliverEvent (.externalWrite 0x41007F)).inputs.nmiPending = 1 := by
  decide +kernel


end Sys2Proof.Tests
end

section
/-! O59: no instruction reaches the system state in user mode. One predicate, `Confined`, says it of an answer; one
rule for each gate and each shared end of the instructions gives it, and `exec_confined` names the rules that each
instruction is made of. -/

open Sys2Proof

namespace Sys2Proof.Machine

variable {s t u : State}

/-! ## Leaving the system state alone -/

theorem SameSystem.trans (h : SameSystem s t) (h' : SameSystem t u) : SameSystem s u :=
  .of (h'.cp0.trans h.cp0) (h'.tlb.trans h.tlb) (h'.link.1.trans h.link.1) (h'.link.2.trans h.link.2)
    (h'.world.runState.trans h.world.runState) (h'.world.pins.trans h.world.pins)
    (h'.world.inputs.trans h.world.inputs) (h'.world.env.trans h.world.env) (h'.world.raised.trans h.world.raised)

/-- The system state is kept: all of `SameSystem` but for the LL bit, its address, and LLAddr. -/
structure KeepsSystem (s t : State) : Prop where
  cp0 : t.cp0 = { s.cp0 with llAddr := t.cp0.llAddr }
  tlb : t.tlb = s.tlb
  runState : t.runState = s.runState
  pins : t.pins = s.pins
  inputs : t.inputs = s.inputs
  env : t.env = s.env

theorem SameSystem.keepsSystem (h : SameSystem s t) : KeepsSystem s t where
  cp0 := by rw [h.cp0]
  tlb := h.tlb
  runState := h.world.runState
  pins := h.world.pins
  inputs := h.world.inputs
  env := h.world.env

theorem sameSystem_setReg (s : State) (r : RegNum) (v : Dword) : SameSystem s (s.setReg r v) := by
  apply SameSystem.of <;> simp

theorem sameSystem_drew (s : State) (n : Nat) : SameSystem s (s.drew n) := by apply SameSystem.of <;> simp

theorem sameSystem_setFcr31 (s : State) (f : Fcr31) : SameSystem s (s.setFcr31 f) := by apply SameSystem.of <;> simp

theorem sameSystem_advance (s : State) : SameSystem s s.advance := by apply SameSystem.of <;> simp

theorem sameSystem_scDrew (s : State) : SameSystem s s.scDrew := sameSystem_drew s _

theorem sameSystem_writeFgrWord (s : State) (i : FprNum) (w : Word) : SameSystem s (s.writeFgrWord i w) := by
  unfold State.writeFgrWord
  split
  · apply SameSystem.of <;> simp
  · split <;> apply SameSystem.of <;> simp

theorem sameSystem_writeFgrDouble (s : State) (i : FprNum) (v : Dword) : SameSystem s (s.writeFgrDouble i v) := by
  apply SameSystem.of <;> simp [State.writeFgrDouble]

theorem sameSystem_store (f : FpFormat) (fd : FprNum) (v : Dword) (s : State) : SameSystem s (f.store fd v s) := by
  obtain ⟨p, n, h, -⟩ := f.store_eq fd v s
  rw [h]
  apply SameSystem.of <;> simp

/-! ## Confined answers -/

/-- The answer `r` of an instruction in `s`, if it is a state at all, is one in which an exception has been taken or
the system state has been kept. -/
structure Confined (s : State) (r : Result) : Prop where
  of_next : ∀ t, r = .next t → t.raised = true ∨ KeepsSystem s t

theorem confined_of_keeps (h : KeepsSystem s t) : Confined s (.next t) where
  of_next _ e := .inr (Host.Outcome.next.inj e ▸ h)

theorem confined_next (h : SameSystem s t) : Confined s (.next t) := confined_of_keeps h.keepsSystem

theorem confined_raise (s : State) (e : Exc) (u : State) : Confined s (raise e u) where
  of_next _ h := .inl (Host.Outcome.next.inj h ▸ takeException_raised e u)

theorem confined_refused (s : State) (r : Refusal) : Confined s (.refused r) where
  of_next _ h := by simp at h

theorem confined_ite {c : Prop} [Decidable c] {a b : Result} (ha : Confined s a) (hb : Confined s b) :
    Confined s (if c then a else b) := by
  split
  · exact ha
  · exact hb

/-! ## Gates -/

section Gates
variable {k : Result}

theorem confined_needCp0 (h : s.status.cp0Usable = false) (k : Result) : Confined s (needCp0 s k) := by
  rw [needCp0_not h]
  exact confined_raise s _ s

theorem confined_needFpu (h : Confined s k) : Confined s (needFpu s k) := confined_ite h (confined_raise ..)
theorem confined_need64 (h : Confined s k) : Confined s (need64 s k) := confined_ite h (confined_raise ..)
theorem confined_needMips4 (h : Confined s k) : Confined s (needMips4 s k) := confined_ite h (confined_raise ..)
theorem confined_needMips4Fp (h : Confined s k) : Confined s (needMips4Fp s k) := confined_ite h (confined_raise ..)
theorem confined_needCc {cc : BitVec 3} (h : Confined s k) : Confined s (needCc s cc k) :=
  confined_ite h (confined_needMips4Fp h)
theorem confined_needNoSlot (h : Confined s k) : Confined s (needNoSlot u k) := confined_ite (confined_refused ..) h
theorem confined_needEvenFp {l : List FprNum} (h : Confined s k) : Confined s (needEvenFp s l k) :=
  confined_ite (confined_refused ..) h
theorem confined_needSameRegion {base : RegNum} {va : Dword} (h : Confined s k) :
    Confined s (needSameRegion s base va k) := confined_ite h (confined_refused ..)

theorem confined_withData {va : Dword} {n : Nat} {store : Bool} {k : PAddr → CacheAttr → Result}
    (h : ∀ pa attr, Confined s (k pa attr)) : Confined s (withData s va n store k) := by
  obtain ⟨e, he⟩ | ⟨pa, attr, -, hk⟩ := withData_cases s va n store k
  · rw [he]; exact confined_raise s e s
  · rw [hk]; exact h pa attr

theorem confined_indexedGate {base index : RegNum} {k : Dword → Result} (h : ∀ va, Confined s (k va)) :
    Confined s (indexedGate s base index k) :=
  confined_needFpu (confined_needMips4 (confined_needSameRegion (h _)))

end Gates

/-! ## Ends of the integer instructions -/

theorem confined_advance (h : SameSystem s t) : Confined s (.next t.advance) :=
  confined_next (h.trans (sameSystem_advance t))

theorem confined_writeReg (s : State) (rd : RegNum) (v : Dword) : Confined s (writeReg s rd v) :=
  confined_advance (sameSystem_setReg s rd v)

/-- The end of an instruction whose result is a free value. -/
theorem confined_setReg_drew (s : State) (rd : RegNum) (v : Dword) (n : Nat) :
    Confined s (.next ((s.setReg rd v).drew n).advance) :=
  confined_next (gprEffect_setReg s rd v n).system

theorem confined_writeWord (s : State) (valid : Bool) (rd : RegNum) (w : Word) :
    Confined s (writeWord s valid rd w) :=
  confined_ite (confined_writeReg s rd _) (confined_setReg_drew s rd _ 1)

theorem confined_trapIf (s : State) (c : Bool) : Confined s (trapIf s c) :=
  confined_ite (confined_raise ..) (confined_advance (.refl s))

theorem confined_setHiLo (s : State) (hi lo : Dword) : Confined s (.next (s.setHiLo hi lo).advance) := by
  apply confined_next
  apply SameSystem.of <;> simp

theorem confined_writeHiLoWords (s : State) (defined : Bool) (hi lo : Word) :
    Confined s (writeHiLoWords s defined hi lo) := by
  refine confined_ite (confined_next ?_) (confined_next ?_) <;> apply SameSystem.of <;> simp

theorem confined_writeHiLoDiv (s : State) (divisor hi lo : Dword) : Confined s (writeHiLoDiv s divisor hi lo) := by
  refine confined_ite (confined_next ?_) (confined_setHiLo s hi lo)
  apply SameSystem.of <;> simp

/-- MFHI and MFLO. -/
theorem confined_moveFromHiLo (s : State) (rd : RegNum) (v : Dword) :
    Confined s (.next ((s.setReg rd v).setHiLoFresh false).advance) := by
  apply confined_next
  apply SameSystem.of <;> simp

/-- MTHI and MTLO. -/
theorem confined_moveToHiLo (s : State) (hi lo hi' lo' : Dword) :
    Confined s (if s.hiLoFresh then .next (((s.setHiLo hi lo).drew 1).setHiLoFresh false).advance
      else .next (s.setHiLo hi' lo').advance) := by
  refine confined_ite (confined_next ?_) (confined_setHiLo s hi' lo')
  apply SameSystem.of <;> simp

theorem confined_mul64 (s : State) (rd : RegNum) (v hi lo : Dword) :
    Confined s (.next (((s.setReg rd v).setHiLo hi lo).drew 2).advance) := by
  apply confined_next
  apply SameSystem.of <;> simp

/-- The MACC family, whichever word of the accumulator it answers. -/
theorem confined_macc (s : State) (rd : RegNum) (acc v : Dword) :
    Confined s (.next ((s.setAcc acc).setReg rd v).advance) :=
  confined_next (hiLoEffect_setHiLo s _ _ rd v).system

/-! ## Ends of the jumps and branches -/

theorem confined_branchOn (h : SameSystem s u) (offset : BitVec 16) (taken likely : Bool) :
    Confined s (branchOn u offset taken likely) := by
  refine confined_needNoSlot (confined_next (h.trans ?_))
  split
  · apply SameSystem.of <;> simp
  · split <;> apply SameSystem.of <;> simp

theorem confined_branchLinkOn (s : State) (offset : BitVec 16) (taken likely : Bool) :
    Confined s (branchLinkOn s offset taken likely) :=
  confined_branchOn (sameSystem_setReg s 31 _) offset taken likely

theorem confined_jumpOn (h : SameSystem s u) (target : Dword) (byRegister : Bool) :
    Confined s (jumpOn u target byRegister) := by
  refine confined_needNoSlot (confined_next (h.trans ?_))
  apply SameSystem.of <;> simp

/-! ## Ends of the loads and stores -/

theorem confined_access (h : SameSystem s t) : Confined s (.next t.noteAccess.advance) := by
  refine confined_next (h.trans ?_)
  apply SameSystem.of <;> simp

theorem sameSystem_memWrite (s : State) (pa : PAddr) (n : Nat) (v : Dword) : SameSystem s (s.memWrite pa n v) := by
  apply SameSystem.of <;> simp

theorem confined_loadReg (s : State) (va : Dword) (n : Nat) (rt : RegNum) (f : Dword → Dword) :
    Confined s (loadReg s va n rt f) :=
  confined_withData fun _ _ => confined_access (sameSystem_setReg s rt _)

theorem confined_loadPart (s : State) (va : Dword) (rt : RegNum) (f : PAddr → Dword) :
    Confined s (loadPart s va rt f) :=
  confined_withData fun _ _ => confined_access (sameSystem_setReg s rt _)

/-- LL and LLD are the instructions that write LLAddr. -/
theorem confined_loadLinked (s : State) (va : Dword) (n : Nat) (rt : RegNum) (f : Dword → Dword) :
    Confined s (loadLinked s va n rt f) := by
  refine confined_withData fun pa attr => confined_ite (confined_of_keeps ?_) (confined_refused ..)
  constructor <;> simp

theorem confined_storeBytes (s : State) (va : Dword) (n : Nat) (v : Dword) : Confined s (storeBytes s va n v) :=
  confined_withData fun pa _ => confined_access (sameSystem_memWrite s pa n v)

theorem confined_storePart (s : State) (va : Dword) (first : PAddr → Nat → PAddr) (n : Nat) (v : Dword) :
    Confined s (storePart s va first n v) :=
  confined_withData fun pa _ => confined_access (sameSystem_memWrite s (first pa n) n v)

theorem confined_storeConditional (s : State) (va : Dword) (n : Nat) (rt : RegNum) :
    Confined s (storeConditional s va n rt) := by
  unfold storeConditional
  split
  · exact confined_raise ..
  · next pa attr _ =>
    refine confined_ite (confined_writeReg s rt 0) (confined_ite (confined_refused ..) (confined_ite ?_ ?_))
    · exact confined_advance ((sameSystem_scDrew s).trans (sameSystem_setReg s.scDrew rt 0))
    · split
      · exact confined_raise ..
      · exact confined_access (((sameSystem_scDrew s).trans (sameSystem_memWrite ..)).trans (sameSystem_setReg _ rt 1))

theorem confined_loadFgrWord (s : State) (va : Dword) (i : FprNum) : Confined s (loadFgrWord s va i) :=
  confined_withData fun _ _ => confined_access (sameSystem_writeFgrWord s i _)

theorem confined_loadFgrDouble (s : State) (va : Dword) (i : FprNum) : Confined s (loadFgrDouble s va i) :=
  confined_withData fun _ _ =>
    confined_ite (confined_refused ..) (confined_access (sameSystem_writeFgrDouble s i _))

theorem confined_storeFgrDouble (s : State) (va : Dword) (i : FprNum) : Confined s (storeFgrDouble s va i) :=
  confined_withData fun pa _ =>
    confined_ite (confined_access ((sameSystem_memWrite s pa 8 _).trans (sameSystem_drew _ 1)))
      (confined_access (sameSystem_memWrite s pa 8 _))

/-! ## Ends of the FPU instructions -/

theorem confined_raiseUnimplemented (s : State) : Confined s (raiseUnimplemented s) := confined_raise ..

theorem confined_fpFinish {store : State → State} (h : ∀ t, SameSystem t (store t)) (c : BitVec 6) :
    Confined s (fpFinish s c store) :=
  confined_ite (confined_raise ..) (confined_advance ((sameSystem_setFcr31 s _).trans (h _)))

theorem confined_finish (f : FpFormat) (s : State) (fd : FprNum) (r : FpResult) : Confined s (f.finish s fd r) :=
  confined_fpFinish (sameSystem_store f fd r.value) r.cause

theorem confined_fpMoveIf (f : FpFormat) (c : Bool) (s : State) (fs fd : FprNum) : Confined s (fpMoveIf f c s fs fd) :=
  confined_needEvenFp (confined_advance (sameSystem_store f fd _ s))

theorem confined_fpToWord (f : FpFormat) (mode : Rounding) (s : State) (fs fd : FprNum) :
    Confined s (fpToWord f mode s fs fd) :=
  confined_needEvenFp (confined_fpFinish (fun t => sameSystem_store .single fd _ t) _)

theorem confined_fpToLong (f : FpFormat) (mode : Rounding) (s : State) (fs fd : FprNum) :
    Confined s (fpToLong f mode s fs fd) :=
  confined_need64 (confined_needEvenFp (confined_fpFinish (fun t => sameSystem_writeFgrDouble t fd _) _))

theorem confined_fpFromDword (f : FpFormat) (s : State) (fs fd : FprNum) : Confined s (fpFromDword f s fs fd) :=
  confined_ite (confined_needEvenFp (confined_finish ..)) (confined_raiseUnimplemented s)

theorem confined_fpCompare (f : FpFormat) (cond : BitVec 4) (s : State) (ft fs : FprNum) (cc : BitVec 3) :
    Confined s (fpCompare f cond s ft fs cc) :=
  confined_needCc (confined_needEvenFp (confined_fpFinish (fun t => sameSystem_setFcr31 t _) _))

theorem confined_cfc1 (s : State) (rt : RegNum) (fs : FprNum) : Confined s (execCfc1 rt fs s) := by
  refine confined_needFpu ?_
  split
  · exact confined_writeReg ..
  · exact confined_setReg_drew ..

theorem confined_ctc1 (s : State) (rt : RegNum) (fs : FprNum) : Confined s (execCtc1 rt fs s) := by
  refine confined_needFpu ?_
  split
  · exact confined_ite (confined_raise ..) (confined_advance (sameSystem_setFcr31 s _))
  · exact confined_ite (confined_advance (.refl s)) (confined_refused ..)

/-! ## Every instruction -/

/-- Where coprocessor 0 is not usable, the answer of every instruction is confined. Each case reads the instruction's
meaning from the outside in: its gates, then its end. -/
theorem exec_confined (hcp0 : s.status.cp0Usable = false) (i : Instr) : Confined s (exec i s) := by
  cases i with dsimp only [exec]
  -- integer arithmetic, logic and shifts
  | addi | add | sub => exact confined_ite (confined_raise ..) (confined_writeWord ..)
  | addiu | addu | subu | clo | clz | srl | sra | srlv | srav => exact confined_writeWord ..
  | slti | sltiu | andi | ori | xori | lui | slt | sltu | and | or | xor | nor | sll | sllv | ror | rorv =>
    exact confined_writeReg ..
  | daddi | dadd | dsub => exact confined_need64 (confined_ite (confined_raise ..) (confined_writeReg ..))
  | daddiu | daddu | dsubu | dclo | dclz | dsll | dsrl | dsra | dsllv | dsrlv | dsrav | dsll32 | dsrl32 | dsra32
  | dror | dror32 | drorv => exact confined_need64 (confined_writeReg ..)
  | movn | movz => exact confined_needMips4 (confined_ite (confined_writeReg ..) (confined_advance (.refl s)))
  -- multiplication and division
  | mult | multu | div | divu => exact confined_writeHiLoWords ..
  | dmult | dmultu => exact confined_need64 (confined_setHiLo ..)
  | ddiv | ddivu => exact confined_need64 (confined_writeHiLoDiv ..)
  | mfhi | mflo => exact confined_moveFromHiLo ..
  | mthi | mtlo => exact confined_moveToHiLo ..
  | madd | maddu | msub | msubu => exact confined_setHiLo ..
  | mul64 => exact confined_mul64 ..
  | macc | macchi | macchiu | maccu | msac | msachi | msachiu | msacu | mul | mulhi | mulhiu | muls | mulshi | mulshiu
  | mulsu | mulu => exact confined_macc ..
  -- jumps and branches
  | beq | bne | blez | bgtz | bltz | bgez | beql | bnel | blezl | bgtzl | bltzl | bgezl =>
    exact confined_branchOn (.refl s) ..
  | bltzal | bgezal | bltzall | bgezall => exact confined_branchLinkOn ..
  | j | jr => exact confined_jumpOn (.refl s) ..
  | jal => exact confined_jumpOn (sameSystem_setReg ..) ..
  | jalr =>
    exact confined_ite (confined_jumpOn ((sameSystem_setReg ..).trans (sameSystem_drew ..)) ..)
      (confined_jumpOn (sameSystem_setReg ..) ..)
  -- system calls, traps and the instructions that do nothing
  | syscall | breakpoint => exact confined_raise ..
  | tge | tgeu | tlt | tltu | teq | tne | tgei | tgeiu | tlti | tltiu | teqi | tnei => exact confined_trapIf ..
  | ssnop | sync => exact confined_advance (.refl s)
  | pref => exact confined_needMips4 (confined_advance (.refl s))
  -- loads and stores
  | lb | lbu | lh | lhu | lw => exact confined_loadReg ..
  | lwu | ld => exact confined_need64 (confined_loadReg ..)
  | lwl | lwr => exact confined_loadPart ..
  | ldl | ldr => exact confined_need64 (confined_loadPart ..)
  | ll => exact confined_loadLinked ..
  | lld => exact confined_need64 (confined_loadLinked ..)
  | sb | sh | sw => exact confined_storeBytes ..
  | sd => exact confined_need64 (confined_storeBytes ..)
  | swl | swr => exact confined_storePart ..
  | sdl | sdr => exact confined_need64 (confined_storePart ..)
  | sc => exact confined_storeConditional ..
  | scd => exact confined_need64 (confined_storeConditional ..)
  -- coprocessor 0: stopped at its gate
  | cache | mfc0 | mtc0 | dmfc0 | dmtc0 | mfpc | mfps | mtpc | mtps | tlbr | tlbwi | tlbwr | tlbp | eret | wait | bc0f
  | bc0t | bc0fl | bc0tl => exact confined_needCp0 hcp0 _
  -- loads, stores, moves and branches of the FPU
  | lwc1 => exact confined_needFpu (confined_loadFgrWord ..)
  | ldc1 => exact confined_needFpu (confined_loadFgrDouble ..)
  | swc1 => exact confined_needFpu (confined_storeBytes ..)
  | sdc1 => exact confined_needFpu (confined_storeFgrDouble ..)
  | lwxc1 => exact confined_indexedGate fun _ => confined_loadFgrWord ..
  | ldxc1 | luxc1 => exact confined_indexedGate fun _ => confined_loadFgrDouble ..
  | swxc1 => exact confined_indexedGate fun _ => confined_storeBytes ..
  | sdxc1 | suxc1 => exact confined_indexedGate fun _ => confined_storeFgrDouble ..
  | prefx => exact confined_needFpu (confined_needMips4 (confined_advance (.refl s)))
  | mfc1 => exact confined_needFpu (confined_writeReg ..)
  | mtc1 => exact confined_needFpu (confined_advance (sameSystem_writeFgrWord ..))
  | dmfc1 =>
    exact confined_needFpu (confined_need64 (confined_ite (confined_setReg_drew ..) (confined_writeReg ..)))
  | dmtc1 =>
    exact confined_needFpu (confined_need64 (confined_ite (confined_refused ..)
      (confined_advance (sameSystem_writeFgrDouble ..))))
  | cfc1 => exact confined_cfc1 ..
  | ctc1 => exact confined_ctc1 ..
  | bc1f | bc1t | bc1fl | bc1tl => exact confined_needFpu (confined_needCc (confined_branchOn (.refl s) ..))
  | movf =>
    exact confined_needFpu (confined_needMips4 (confined_ite (confined_advance (.refl s)) (confined_writeReg ..)))
  | movt =>
    exact confined_needFpu (confined_needMips4 (confined_ite (confined_writeReg ..) (confined_advance (.refl s))))
  | fpMovS | fpMovD => exact confined_needFpu (confined_fpMoveIf ..)
  | fpMovfS | fpMovfD | fpMovtS | fpMovtD | fpMovnS | fpMovnD | fpMovzS | fpMovzD =>
    exact confined_needFpu (confined_needMips4Fp (confined_fpMoveIf ..))
  -- arithmetic, conversions and comparisons of the FPU
  | fpAddS | fpAddD | fpSubS | fpSubD | fpMulS | fpMulD | fpDivS | fpDivD | fpSqrtS | fpSqrtD | fpAbsS | fpAbsD | fpNegS
  | fpNegD | fpCvtSD | fpCvtSW | fpCvtDS | fpCvtDW => exact confined_needFpu (confined_needEvenFp (confined_finish ..))
  | fpRecipS | fpRecipD | fpRsqrtS | fpRsqrtD | fpMaddS | fpMaddD | fpMsubS | fpMsubD | fpNmaddS | fpNmaddD | fpNmsubS
  | fpNmsubD => exact confined_needFpu (confined_needMips4Fp (confined_needEvenFp (confined_finish ..)))
  | fpRoundLS | fpRoundLD | fpTruncLS | fpTruncLD | fpCeilLS | fpCeilLD | fpFloorLS | fpFloorLD | fpCvtLS | fpCvtLD =>
    exact confined_needFpu (confined_fpToLong ..)
  | fpRoundWS | fpRoundWD | fpTruncWS | fpTruncWD | fpCeilWS | fpCeilWD | fpFloorWS | fpFloorWD | fpCvtWS | fpCvtWD =>
    exact confined_needFpu (confined_fpToWord ..)
  | fpCvtSL | fpCvtDL => exact confined_needFpu (confined_fpFromDword ..)
  | fpCFS | fpCFD | fpCUnS | fpCUnD | fpCEqS | fpCEqD | fpCUeqS | fpCUeqD | fpCOltS | fpCOltD | fpCUltS | fpCUltD
  | fpCOleS | fpCOleD | fpCUleS | fpCUleD | fpCSfS | fpCSfD | fpCNgleS | fpCNgleD | fpCSeqS | fpCSeqD | fpCNglS
  | fpCNglD | fpCLtS | fpCLtD | fpCNgeS | fpCNgeD | fpCLeS | fpCLeD | fpCNgtS | fpCNgtD =>
    exact confined_needFpu (confined_fpCompare ..)

theorem cp0Usable_of_user {st : Status} (hmode : st.mode = .user) (hcu0 : st.cu0 = false) : st.cp0Usable = false := by
  simp [Status.cp0Usable, hmode, hcu0]

/-- Settles O59: user mode without CU0 closes the gate of coprocessor 0, and all other answers are confined. -/
theorem userModeKeepsSystemState : Obligations.UserModeKeepsSystemState := by
  intro i s t hmode hcu0 hexec _ hraised
  obtain h | ⟨hcp0, htlb, hrun, hpins, hinputs, henv⟩ := exec_confined (cp0Usable_of_user hmode hcu0) i |>.of_next t hexec
  · rw [hraised] at h; contradiction
  · exact ⟨hcp0, htlb, hrun, hpins, hinputs, henv⟩

end Sys2Proof.Machine
end

section
/-! O49, O50 and O9: the modes that Status selects, the answers of the gates where they are closed, the refusal of odd
floating-point registers, and register r0. -/

open Sys2Proof

namespace Sys2Proof.Machine

variable {s : State}

/-! ## The zero register -/

/-- Settles O9, from the laws of `setReg` and the meaning of the overflow test. -/
theorem zeroRegister : Obligations.ZeroRegister := fun s r q v =>
  ⟨State.reg_zero s, State.setReg_zero s v, fun hr => by rw [State.reg_setReg_self, if_neg hr],
    State.reg_setReg_ne s r q v, fun h => if_pos ((addOverflows32_iff _ _).2 h)⟩

/-! ## Odd floating-point registers -/

theorem State.oddFp_of_fr (hfr : s.status.fr = false) (i : FprNum) : s.oddFp i = i.getLsbD 0 := by
  simp [State.oddFp, hfr]

theorem State.oddFp_eq_of_fr (hfr : s.status.fr = false) : s.oddFp = fun i => i.getLsbD 0 :=
  funext (State.oddFp_of_fr hfr)

section OddRegisters
variable {regs : List FprNum} (hcu1 : s.status.cu1 = true) (hodd : regs.any s.oddFp = true) (k : Result)
include hcu1 hodd

theorem refuses_odd : needFpu s (needEvenFp s regs k) = .refused .oddFpRegister :=
  (needFpu_of hcu1 _).trans (needEvenFp_not hodd k)

theorem refuses_odd_mips4Fp (hm : s.status.mips4 = true) :
    needFpu s (needMips4Fp s (needEvenFp s regs k)) = .refused .oddFpRegister := by
  rw [needMips4Fp_of hm, refuses_odd hcu1 hodd]

/-- The gates of the conversions to L and from L, which differ in what they raise. -/
theorem refuses_odd_ops64 (h64 : s.status.ops64 = true) (other : Result) :
    needFpu s (if s.status.ops64 then needEvenFp s regs k else other) = .refused .oddFpRegister := by
  rw [if_pos h64, refuses_odd hcu1 hodd]

theorem refuses_odd_cc {cc : BitVec 3} (hcc : cc = 0 ∨ s.status.mips4 = true) :
    needFpu s (needCc s cc (needEvenFp s regs k)) = .refused .oddFpRegister := by
  rw [needCc_of hcc, refuses_odd hcu1 hodd]

end OddRegisters

/-- Settles O50: every instruction of a list is its gates around `needEvenFp` of the registers that it names. The
instructions of a list share that shape, so one law answers for them all. -/
theorem oddFpRegistersStop : Obligations.OddFpRegistersStop := by
  intro s b w x y z cc hcu1 hfr
  have odd := State.oddFp_eq_of_fr hfr
  refine ⟨fun hxz => ?_, fun hyxz => ?_, fun hm hwyxz => ?_, fun hcc hyx => ?_, fun h64 hx => ?_⟩
  · have h : [x, z].any s.oddFp = true := by simpa [odd] using hxz
    refine ⟨?_, fun hm => ?_, fun h64 => ?_⟩
    · intro i hi; fin_cases hi <;> exact refuses_odd hcu1 h _
    · intro i hi; fin_cases hi <;> exact refuses_odd_mips4Fp hcu1 h _ hm
    · intro i hi; fin_cases hi <;> exact refuses_odd_ops64 hcu1 h _ h64 _
  · have h : [y, x, z].any s.oddFp = true := by simpa [odd, or_assoc] using hyxz
    intro i hi; fin_cases hi <;> exact refuses_odd hcu1 h _
  · have h : [w, y, x, z].any s.oddFp = true := by simpa [odd, or_assoc] using hwyxz
    intro i hi; fin_cases hi <;> exact refuses_odd_mips4Fp hcu1 h _ hm
  · have h : [y, x].any s.oddFp = true := by simpa [odd] using hyx
    intro i hi; fin_cases hi <;> exact refuses_odd_cc hcu1 h _ hcc
  · exact (needFpu_of hcu1 _).trans ((need64_of h64 _).trans (if_pos ((State.oddFp_of_fr hfr x).trans hx)))

/-! ## The mode and what it enables -/

section Modes
variable (st : Status)

theorem Status.mode_eq_kernel_iff : st.mode = .kernel ↔ st.exl = true ∨ st.erl = true ∨ st.ksu = 0b00 := by
  unfold Status.mode
  simp only [Bool.or_eq_true]
  split_ifs with hlevel h0 h1 <;> grind

theorem Status.mode_eq_supervisor_iff :
    st.mode = .supervisor ↔ st.exl = false ∧ st.erl = false ∧ st.ksu = 0b01 := by
  unfold Status.mode
  simp only [Bool.or_eq_true]
  split_ifs with hlevel h0 h1 <;> grind

/-- KSU = 11 is user mode too (log 12). -/
theorem Status.mode_eq_user_iff :
    st.mode = .user ↔ st.exl = false ∧ st.erl = false ∧ (st.ksu = 0b10 ∨ st.ksu = 0b11) := by
  have hksu : st.ksu = 0b00 ∨ st.ksu = 0b01 ∨ st.ksu = 0b10 ∨ st.ksu = 0b11 := by
    generalize st.ksu = k
    revert k
    decide
  unfold Status.mode
  simp only [Bool.or_eq_true]
  split_ifs with hlevel h0 h1 <;> grind

theorem Status.addr64_iff : st.addr64 = true ↔
    st.mode = .kernel ∧ st.kx = true ∨ st.mode = .supervisor ∧ st.sx = true ∨ st.mode = .user ∧ st.ux = true := by
  unfold Status.addr64
  cases st.mode <;> simp

theorem Status.ops64_iff : st.ops64 = true ↔
    st.mode = .kernel ∨ st.mode = .supervisor ∧ st.sx = true ∨ st.mode = .user ∧ st.ux = true := by
  unfold Status.ops64
  cases st.mode <;> simp

theorem Status.mips4_iff : st.mips4 = true ↔
    st.mode = .kernel ∨ st.mode = .supervisor ∨ st.mode = .user ∧ st.xx = true := by
  unfold Status.mips4
  cases st.mode <;> simp

theorem Status.cp0Usable_iff : st.cp0Usable = true ↔ st.mode = .kernel ∨ st.cu0 = true := by
  simp [Status.cp0Usable]

end Modes

/-! ## The word of Status

The proofs peel the fields of `Status.toWord` off its right end. `simp` does not find the sum of widths behind the 32 of
`Word`, so the last field is split off by `rw`, and the others by `simp only`. -/

theorem State.readCp0_status (s : State) : s.readCp0 12 = s.status.toWord.setWidth 64 := rfl

/-- The one-bit fields of Status and its constant bits, each at its place. -/
def Status.flags (st : Status) : List (Nat × Bool) :=
  [(31, st.xx), (30, st.cu2), (29, st.cu1), (28, st.cu0), (27, false), (26, st.fr), (25, false), (24, st.dme),
    (23, false), (22, st.bev), (21, st.ts), (20, st.sr), (19, false), (18, st.ch), (17, st.ce), (16, st.de),
    (7, st.kx), (6, st.sx), (5, st.ux), (2, st.erl), (1, st.exl), (0, st.ie)]

theorem Status.getLsbD_flags (st : Status) {p : Nat × Bool} (hp : p ∈ st.flags) :
    (st.toWord.setWidth 64).getLsbD p.1 = p.2 := by
  rw [BitVec.getLsbD_setWidth, Status.toWord, BitVec.getLsbD_append]
  simp only [BitVec.getLsbD_append]
  unfold Status.flags at hp
  fin_cases hp <;> simp [bit]

theorem Status.im_toWord (st : Status) : (st.toWord.setWidth 64).extractLsb' 8 8 = st.im := by
  apply BitVec.eq_of_getLsbD_eq
  intro i hi
  rw [BitVec.getLsbD_extractLsb', BitVec.getLsbD_setWidth, Status.toWord, BitVec.getLsbD_append]
  simp only [BitVec.getLsbD_append]
  interval_cases i <;> simp

theorem Status.ksu_toWord (st : Status) : (st.toWord.setWidth 64).extractLsb' 3 2 = st.ksu := by
  apply BitVec.eq_of_getLsbD_eq
  intro i hi
  rw [BitVec.getLsbD_extractLsb', BitVec.getLsbD_setWidth, Status.toWord, BitVec.getLsbD_append]
  simp only [BitVec.getLsbD_append]
  interval_cases i <;> simp

/-! ## Instructions that are not enabled -/

/-- Settles O49: the first half restates the mode and the word of Status; in the second every instruction of a list is a
closed gate behind open ones, and the gate's law is its answer. -/
theorem instructionsOutsideTheirMode : Obligations.InstructionsOutsideTheirMode := by
  refine ⟨fun s => ?_, fun s a b d w x y z imm offset sa cc => ⟨fun h64 => ⟨?_, fun hcp0 => ?_, fun hcu1 => ?_⟩,
    fun hm => ⟨?_, fun hcu1 => ⟨?_, ?_, fun hcc => ?_⟩⟩⟩⟩
  · simp only [← Status.mode_eq_kernel_iff, ← Status.mode_eq_supervisor_iff, ← Status.mode_eq_user_iff,
      Status.addr64_iff, Status.ops64_iff, Status.mips4_iff, Status.cp0Usable_iff, true_and, State.readCp0_status]
    exact ⟨fun _ => Status.getLsbD_flags _, Status.im_toWord _, Status.ksu_toWord _⟩
  · intro i hi; fin_cases hi <;> exact need64_not h64 _
  · exact ⟨(needCp0_of hcp0 _).trans (need64_not h64 _), (needCp0_of hcp0 _).trans (need64_not h64 _)⟩
  · refine ⟨?_, (needFpu_of hcu1 _).trans (if_neg (by simp [h64])), (needFpu_of hcu1 _).trans (if_neg (by simp [h64]))⟩
    intro i hi; fin_cases hi <;> exact (needFpu_of hcu1 _).trans (need64_not h64 _)
  · intro i hi; fin_cases hi <;> exact needMips4_not hm _
  · intro i hi; fin_cases hi <;> exact (needFpu_of hcu1 _).trans (needMips4_not hm _)
  · intro i hi; fin_cases hi <;> exact (needFpu_of hcu1 _).trans (needMips4Fp_not hm _)
  · intro i hi; fin_cases hi <;> exact (needFpu_of hcu1 _).trans (needCc_not hcc hm _)

end Sys2Proof.Machine
end

section
/-! O5: every step keeps memory canonical. One predicate, `KeepsCanonical`, says it of an answer: most ends of the
instructions leave memory as it was, and the others are the stores, which write it by `memWrite`. -/

open Sys2Proof

namespace Sys2Proof.Machine

variable {s t u : State}

/-! ## Canonical memory -/

theorem State.Canonical.of_mem_eq (h : s.Canonical) (e : t.mem = s.mem) : t.Canonical := by
  rwa [State.Canonical, e]

theorem State.Canonical.memWrite (h : s.Canonical) (pa : PAddr) (n : Nat) (v : Dword) :
    (s.memWrite pa n v).Canonical := State.wf_memWrite h pa n v

/-! ## Answers that keep it -/

/-- From a canonical memory in `s`, the answer `r`, if it is a state at all, is one with a canonical memory. -/
structure KeepsCanonical (s : State) (r : Result) : Prop where
  of_next : s.Canonical → ∀ t, r = .next t → t.Canonical

theorem KeepsCanonical.next (h : s.Canonical → t.Canonical) : KeepsCanonical s (.next t) where
  of_next hs _ e := Host.Outcome.next.inj e ▸ h hs

/-- The end of every instruction that does not write memory. -/
theorem KeepsCanonical.of_mem_eq (e : t.mem = s.mem) : KeepsCanonical s (.next t) := .next fun h => h.of_mem_eq e

theorem KeepsCanonical.raise (e : Exc) (hu : u.mem = s.mem) : KeepsCanonical s (raise e u) :=
  .of_mem_eq ((takeException_mem e u).trans hu)

theorem KeepsCanonical.refused (s : State) (r : Refusal) : KeepsCanonical s (.refused r) where
  of_next _ _ h := by simp at h

theorem KeepsCanonical.fault (s : State) (f : Fault) : KeepsCanonical s (.fault f) where
  of_next _ _ h := by simp at h

theorem KeepsCanonical.ite {c : Prop} [Decidable c] {a b : Result} (ha : KeepsCanonical s a)
    (hb : KeepsCanonical s b) : KeepsCanonical s (if c then a else b) := by
  split
  · exact ha
  · exact hb

/-! ## Gates -/

section Gates
variable {k : Result}

theorem KeepsCanonical.needCp0 (h : KeepsCanonical s k) : KeepsCanonical s (needCp0 s k) := .ite h (.raise _ rfl)
theorem KeepsCanonical.needFpu (h : KeepsCanonical s k) : KeepsCanonical s (needFpu s k) := .ite h (.raise _ rfl)
theorem KeepsCanonical.need64 (h : KeepsCanonical s k) : KeepsCanonical s (need64 s k) := .ite h (.raise _ rfl)
theorem KeepsCanonical.needMips4 (h : KeepsCanonical s k) : KeepsCanonical s (needMips4 s k) := .ite h (.raise _ rfl)
theorem KeepsCanonical.raiseUnimplemented (s : State) : KeepsCanonical s (raiseUnimplemented s) := .raise _ rfl
theorem KeepsCanonical.needMips4Fp (h : KeepsCanonical s k) : KeepsCanonical s (needMips4Fp s k) :=
  .ite h (.raiseUnimplemented s)
theorem KeepsCanonical.needCc {cc : BitVec 3} (h : KeepsCanonical s k) : KeepsCanonical s (needCc s cc k) :=
  .ite h (.needMips4Fp h)
theorem KeepsCanonical.needNoSlot (h : KeepsCanonical s k) : KeepsCanonical s (needNoSlot u k) := .ite (.refused ..) h
theorem KeepsCanonical.needEvenFp {l : List FprNum} (h : KeepsCanonical s k) : KeepsCanonical s (needEvenFp s l k) :=
  .ite (.refused ..) h

theorem KeepsCanonical.withData {va : Dword} {n : Nat} {store : Bool} {k : PAddr → CacheAttr → Result}
    (h : ∀ pa attr, KeepsCanonical s (k pa attr)) : KeepsCanonical s (withData s va n store k) := by
  obtain ⟨e, he⟩ | ⟨pa, attr, -, hk⟩ := withData_cases s va n store k
  · rw [he]; exact .raise e rfl
  · rw [hk]; exact h pa attr

theorem KeepsCanonical.indexedGate {base index : RegNum} {k : Dword → Result} (h : ∀ va, KeepsCanonical s (k va)) :
    KeepsCanonical s (indexedGate s base index k) := .needFpu (.needMips4 (.ite (h _) (.refused ..)))

end Gates

/-! ## Ends that do not write memory -/

theorem KeepsCanonical.advance (s : State) : KeepsCanonical s (.next s.advance) := .of_mem_eq rfl

theorem KeepsCanonical.writeReg (s : State) (rd : RegNum) (v : Dword) : KeepsCanonical s (writeReg s rd v) :=
  .of_mem_eq (by simp)

/-- The end of an instruction whose result is a free value. -/
theorem KeepsCanonical.setReg_drew (s : State) (rd : RegNum) (v : Dword) (n : Nat) :
    KeepsCanonical s (.next ((s.setReg rd v).drew n).advance) := .of_mem_eq (by simp)

theorem KeepsCanonical.writeWord (s : State) (valid : Bool) (rd : RegNum) (w : Word) :
    KeepsCanonical s (writeWord s valid rd w) := .ite (.writeReg s rd _) (.setReg_drew s rd _ 1)

theorem KeepsCanonical.trapIf (s : State) (c : Bool) : KeepsCanonical s (trapIf s c) :=
  .ite (.raise _ rfl) (.advance s)

theorem KeepsCanonical.writeHiLoWords (s : State) (defined : Bool) (hi lo : Word) :
    KeepsCanonical s (writeHiLoWords s defined hi lo) := .ite (.of_mem_eq rfl) (.of_mem_eq rfl)

theorem KeepsCanonical.writeHiLoDiv (s : State) (divisor hi lo : Dword) :
    KeepsCanonical s (writeHiLoDiv s divisor hi lo) := .ite (.of_mem_eq rfl) (.of_mem_eq rfl)

theorem KeepsCanonical.branchOn (e : u.mem = s.mem) (offset : BitVec 16) (taken likely : Bool) :
    KeepsCanonical s (branchOn u offset taken likely) := by
  refine .needNoSlot (.of_mem_eq (Eq.trans ?_ e))
  split
  · rfl
  · split <;> rfl

theorem KeepsCanonical.branchLinkOn (s : State) (offset : BitVec 16) (taken likely : Bool) :
    KeepsCanonical s (branchLinkOn s offset taken likely) := .branchOn (by simp) offset taken likely

theorem KeepsCanonical.jumpOn (e : u.mem = s.mem) (target : Dword) (byRegister : Bool) :
    KeepsCanonical s (jumpOn u target byRegister) := .needNoSlot (.of_mem_eq e)

theorem KeepsCanonical.loadReg (s : State) (va : Dword) (n : Nat) (rt : RegNum) (f : Dword → Dword) :
    KeepsCanonical s (loadReg s va n rt f) := .withData fun _ _ => .of_mem_eq (by simp)

theorem KeepsCanonical.loadPart (s : State) (va : Dword) (rt : RegNum) (f : PAddr → Dword) :
    KeepsCanonical s (loadPart s va rt f) := .withData fun _ _ => .of_mem_eq (by simp)

theorem KeepsCanonical.loadLinked (s : State) (va : Dword) (n : Nat) (rt : RegNum) (f : Dword → Dword) :
    KeepsCanonical s (loadLinked s va n rt f) := .withData fun _ _ => .ite (.of_mem_eq (by simp)) (.refused ..)

/-! ## Ends of the instructions of coprocessor 0 -/

theorem mem_writeCp0 (s : State) (rd : BitVec 5) (v : Dword) : (s.writeCp0 rd v).mem = s.mem := by
  unfold State.writeCp0
  dsimp only
  split <;> rfl

theorem mem_beforeCp0Read (s : State) (rd : BitVec 5) : (s.beforeCp0Read rd).mem = s.mem := by
  unfold State.beforeCp0Read
  split <;> rfl

theorem mem_moveFromCp0 (s : State) (rt : RegNum) (rd : BitVec 5) (f : Dword → Dword) :
    (s.moveFromCp0 rt rd f).mem = s.mem := by
  simp [State.moveFromCp0, mem_beforeCp0Read]

theorem mem_exceptionReturn (s : State) : (exceptionReturn s).mem = s.mem := by
  unfold exceptionReturn
  dsimp only
  split <;> rfl

theorem KeepsCanonical.writeCp0 (s : State) (rd : BitVec 5) (v : Dword) :
    KeepsCanonical s (.next (s.writeCp0 rd v).advance) := .of_mem_eq (mem_writeCp0 s rd v)

theorem KeepsCanonical.moveFromCp0 (s : State) (rt : RegNum) (rd : BitVec 5) (f : Dword → Dword) :
    KeepsCanonical s (.next (s.moveFromCp0 rt rd f).advance) := .of_mem_eq (mem_moveFromCp0 s rt rd f)

theorem KeepsCanonical.readPerf (s : State) (rt : RegNum) (w : Option Word) : KeepsCanonical s (readPerf s rt w) := by
  cases w with
  | none => exact .setReg_drew ..
  | some w => exact .writeReg ..

/-- MTPC and MTPS. -/
theorem KeepsCanonical.writePerf (s : State) (reg : BitVec 5) (c c' : Cp0) :
    KeepsCanonical s (if reg = 0 then .next (s.setCp0 c).advance
      else if reg = 1 then .next (s.setCp0 c').advance else .next s.advance) := .ite (.of_mem_eq rfl)
    (.ite (.of_mem_eq rfl) (.advance s))

theorem KeepsCanonical.writeEntry (e : u.mem = s.mem) (index : Nat) : KeepsCanonical s (writeEntry u index) :=
  .ite (.of_mem_eq e) (.refused ..)

theorem KeepsCanonical.tlbp (s : State) : KeepsCanonical s (execTlbp s) := by
  refine .needCp0 ?_
  split
  · exact .of_mem_eq rfl
  · exact .of_mem_eq rfl
  · exact .raise _ rfl

theorem KeepsCanonical.tlbr (s : State) : KeepsCanonical s (execTlbr s) := by
  refine .needCp0 ?_
  split
  · exact .of_mem_eq rfl
  · exact .refused ..

/-! ## Ends of the FPU instructions -/

theorem mem_writeFgrWord (s : State) (i : FprNum) (w : Word) : (s.writeFgrWord i w).mem = s.mem := by
  unfold State.writeFgrWord
  split
  · rfl
  · split <;> rfl

theorem mem_store (f : FpFormat) (fd : FprNum) (v : Dword) (s : State) : (f.store fd v s).mem = s.mem := by
  cases f <;> rfl

theorem KeepsCanonical.fpFinish {store : State → State} (h : ∀ t, (store t).mem = t.mem) (c : BitVec 6) :
    KeepsCanonical s (fpFinish s c store) := .ite (.raise _ rfl) (.of_mem_eq (h _))

theorem KeepsCanonical.finish (f : FpFormat) (s : State) (fd : FprNum) (r : FpResult) :
    KeepsCanonical s (f.finish s fd r) := .fpFinish (mem_store f fd r.value) r.cause

theorem KeepsCanonical.fpMoveIf (f : FpFormat) (c : Bool) (s : State) (fs fd : FprNum) :
    KeepsCanonical s (fpMoveIf f c s fs fd) := .needEvenFp (.of_mem_eq (mem_store f fd _ s))

theorem KeepsCanonical.fpToWord (f : FpFormat) (mode : Rounding) (s : State) (fs fd : FprNum) :
    KeepsCanonical s (fpToWord f mode s fs fd) := .needEvenFp (.fpFinish (mem_store .single fd _) _)

theorem KeepsCanonical.fpToLong (f : FpFormat) (mode : Rounding) (s : State) (fs fd : FprNum) :
    KeepsCanonical s (fpToLong f mode s fs fd) := .need64 (.needEvenFp (.fpFinish (mem_store .double fd _) _))

theorem KeepsCanonical.fpFromDword (f : FpFormat) (s : State) (fs fd : FprNum) :
    KeepsCanonical s (fpFromDword f s fs fd) := .ite (.needEvenFp (.finish ..)) (.raiseUnimplemented s)

theorem KeepsCanonical.fpCompare (f : FpFormat) (cond : BitVec 4) (s : State) (ft fs : FprNum) (cc : BitVec 3) :
    KeepsCanonical s (fpCompare f cond s ft fs cc) := .needCc (.needEvenFp (.fpFinish (State.mem_setFcr31 · _) _))

theorem KeepsCanonical.cfc1 (s : State) (rt : RegNum) (fs : FprNum) : KeepsCanonical s (execCfc1 rt fs s) := by
  refine .needFpu ?_
  split
  · exact .writeReg ..
  · exact .setReg_drew ..

theorem KeepsCanonical.ctc1 (s : State) (rt : RegNum) (fs : FprNum) : KeepsCanonical s (execCtc1 rt fs s) := by
  refine .needFpu ?_
  split
  · exact .ite (.raise _ rfl) (.of_mem_eq rfl)
  · exact .ite (.advance s) (.refused ..)

theorem KeepsCanonical.loadFgrWord (s : State) (va : Dword) (i : FprNum) : KeepsCanonical s (loadFgrWord s va i) :=
  .withData fun _ _ => .of_mem_eq (mem_writeFgrWord s i _)

theorem KeepsCanonical.loadFgrDouble (s : State) (va : Dword) (i : FprNum) :
    KeepsCanonical s (loadFgrDouble s va i) := .withData fun _ _ => .ite (.refused ..) (.of_mem_eq rfl)

/-! ## Ends that write memory -/

/-- A store into a state `u` with the memory of `s`, and what follows it. -/
theorem KeepsCanonical.memWrite {pa : PAddr} {n : Nat} {v : Dword} (hu : u.mem = s.mem)
    (e : t.mem = (u.memWrite pa n v).mem) : KeepsCanonical s (.next t) :=
  .next fun h => ((h.of_mem_eq hu).memWrite pa n v).of_mem_eq e

theorem KeepsCanonical.storeBytes (s : State) (va : Dword) (n : Nat) (v : Dword) :
    KeepsCanonical s (storeBytes s va n v) := .withData fun _ _ => .memWrite rfl rfl

theorem KeepsCanonical.storePart (s : State) (va : Dword) (first : PAddr → Nat → PAddr) (n : Nat) (v : Dword) :
    KeepsCanonical s (storePart s va first n v) := .withData fun _ _ => .memWrite rfl rfl

theorem KeepsCanonical.storeFgrDouble (s : State) (va : Dword) (i : FprNum) :
    KeepsCanonical s (storeFgrDouble s va i) := .withData fun _ _ => .ite (.memWrite rfl rfl) (.memWrite rfl rfl)

theorem KeepsCanonical.storeConditional (s : State) (va : Dword) (n : Nat) (rt : RegNum) :
    KeepsCanonical s (storeConditional s va n rt) := by
  unfold Machine.storeConditional
  split
  · exact .raise _ rfl
  · refine .ite (.writeReg s rt 0) (.ite (.refused ..) (.ite (.of_mem_eq (by simp [State.scDrew])) ?_))
    split
    · exact .raise _ rfl
    · exact .memWrite (u := s.scDrew) rfl (State.mem_setReg ..)

/-- Create_Dirty writes the four doublewords of its block. -/
theorem State.Canonical.blurBlock (h : s.Canonical) (pa : PAddr) : (s.blurBlock pa).Canonical := by
  unfold State.blurBlock
  exact ((((h.memWrite ..).memWrite ..).memWrite ..).memWrite ..).of_mem_eq (State.mem_drew ..)

theorem State.Canonical.cacheEffect (h : s.Canonical) (op : BitVec 5) (pa : PAddr) :
    (s.cacheEffect op pa).Canonical := by
  unfold State.cacheEffect
  split
  · exact h.of_mem_eq rfl
  · split
    · exact h.blurBlock pa
    · exact h

theorem KeepsCanonical.cache (s : State) (base : RegNum) (op : BitVec 5) (offset : BitVec 16) :
    KeepsCanonical s (execCache base op offset s) := by
  refine .needCp0 ?_
  split
  · exact .raise _ rfl
  · exact .ite (.refused ..) (.ite (.refused ..) (.ite (.raise _ rfl) (.next fun h => h.cacheEffect ..)))

/-! ## Every instruction -/

/-- Each case reads the instruction's meaning from the outside in: its gates, then its end. -/
theorem exec_keepsCanonical (s : State) (i : Instr) : KeepsCanonical s (exec i s) := by
  cases i with dsimp only [exec]
  -- stores, and CACHE
  | sb | sh | sw => exact .storeBytes ..
  | sd => exact .need64 (.storeBytes ..)
  | swl | swr => exact .storePart ..
  | sdl | sdr => exact .need64 (.storePart ..)
  | sc => exact .storeConditional ..
  | scd => exact .need64 (.storeConditional ..)
  | swc1 => exact .needFpu (.storeBytes ..)
  | sdc1 => exact .needFpu (.storeFgrDouble ..)
  | swxc1 => exact .indexedGate fun _ => .storeBytes ..
  | sdxc1 | suxc1 => exact .indexedGate fun _ => .storeFgrDouble ..
  | cache => exact .cache ..
  -- loads
  | lb | lbu | lh | lhu | lw => exact .loadReg ..
  | lwu | ld => exact .need64 (.loadReg ..)
  | lwl | lwr => exact .loadPart ..
  | ldl | ldr => exact .need64 (.loadPart ..)
  | ll => exact .loadLinked ..
  | lld => exact .need64 (.loadLinked ..)
  | lwc1 => exact .needFpu (.loadFgrWord ..)
  | ldc1 => exact .needFpu (.loadFgrDouble ..)
  | lwxc1 => exact .indexedGate fun _ => .loadFgrWord ..
  | ldxc1 | luxc1 => exact .indexedGate fun _ => .loadFgrDouble ..
  -- integer arithmetic, logic and shifts
  | addi | add | sub => exact .ite (.raise _ rfl) (.writeWord ..)
  | addiu | addu | subu | clo | clz | srl | sra | srlv | srav => exact .writeWord ..
  | slti | sltiu | andi | ori | xori | lui | slt | sltu | and | or | xor | nor | sll | sllv | ror | rorv =>
    exact .writeReg ..
  | daddi | dadd | dsub => exact .need64 (.ite (.raise _ rfl) (.writeReg ..))
  | daddiu | daddu | dsubu | dclo | dclz | dsll | dsrl | dsra | dsllv | dsrlv | dsrav | dsll32 | dsrl32 | dsra32
  | dror | dror32 | drorv => exact .need64 (.writeReg ..)
  | movn | movz => exact .needMips4 (.ite (.writeReg ..) (.advance s))
  -- multiplication and division
  | mult | multu | div | divu => exact .writeHiLoWords ..
  | dmult | dmultu => exact .need64 (.of_mem_eq rfl)
  | ddiv | ddivu => exact .need64 (.writeHiLoDiv ..)
  | mthi | mtlo => exact .ite (.of_mem_eq rfl) (.of_mem_eq rfl)
  | mfhi | mflo | madd | maddu | msub | msubu | mul64 | macc | macchi | macchiu | maccu | msac | msachi | msachiu
  | msacu | mul | mulhi | mulhiu | muls | mulshi | mulshiu | mulsu | mulu => exact .of_mem_eq (by simp [State.setAcc])
  -- jumps and branches
  | beq | bne | blez | bgtz | bltz | bgez | beql | bnel | blezl | bgtzl | bltzl | bgezl => exact .branchOn rfl ..
  | bltzal | bgezal | bltzall | bgezall => exact .branchLinkOn ..
  | j | jr => exact .jumpOn rfl ..
  | jal => exact .jumpOn (by simp) ..
  | jalr => exact .ite (.jumpOn (by simp) ..) (.jumpOn (by simp) ..)
  -- system calls, traps and the instructions that do nothing
  | syscall | breakpoint => exact .raise _ rfl
  | tge | tgeu | tlt | tltu | teq | tne | tgei | tgeiu | tlti | tltiu | teqi | tnei => exact .trapIf ..
  | ssnop | sync => exact .advance s
  | pref => exact .needMips4 (.advance s)
  -- coprocessor 0
  | mfc0 => exact .needCp0 (.moveFromCp0 ..)
  | mtc0 => exact .needCp0 (.writeCp0 ..)
  | dmfc0 => exact .needCp0 (.need64 (.ite (.writeReg ..) (.setReg_drew ..)))
  | dmtc0 => exact .needCp0 (.need64 (.ite (.writeCp0 ..) (.refused ..)))
  | mfpc | mfps => exact .needCp0 (.readPerf ..)
  | mtpc | mtps => exact .needCp0 (.writePerf ..)
  | tlbp => exact .tlbp s
  | tlbr => exact .tlbr s
  | tlbwi => exact .needCp0 (.ite (.writeEntry rfl _) (.refused ..))
  | tlbwr => exact .needCp0 (.writeEntry (s := s) (u := s.freshRandom) rfl _)
  | eret => exact .needCp0 (.needNoSlot (.of_mem_eq (mem_exceptionReturn s)))
  | wait => exact .needCp0 (.ite (.fault ..) (.of_mem_eq rfl))
  | bc0f | bc0t | bc0fl | bc0tl => exact .needCp0 (.branchOn rfl ..)
  -- moves and branches of the FPU
  | prefx => exact .needFpu (.needMips4 (.advance s))
  | mfc1 => exact .needFpu (.writeReg ..)
  | mtc1 => exact .needFpu (.of_mem_eq (mem_writeFgrWord ..))
  | dmfc1 => exact .needFpu (.need64 (.ite (.setReg_drew ..) (.writeReg ..)))
  | dmtc1 => exact .needFpu (.need64 (.ite (.refused ..) (.of_mem_eq rfl)))
  | cfc1 => exact .cfc1 ..
  | ctc1 => exact .ctc1 ..
  | bc1f | bc1t | bc1fl | bc1tl => exact .needFpu (.needCc (.branchOn rfl ..))
  | movf => exact .needFpu (.needMips4 (.ite (.advance s) (.writeReg ..)))
  | movt => exact .needFpu (.needMips4 (.ite (.writeReg ..) (.advance s)))
  | fpMovS | fpMovD => exact .needFpu (.fpMoveIf ..)
  | fpMovfS | fpMovfD | fpMovtS | fpMovtD | fpMovnS | fpMovnD | fpMovzS | fpMovzD =>
    exact .needFpu (.needMips4Fp (.fpMoveIf ..))
  -- arithmetic, conversions and comparisons of the FPU
  | fpAddS | fpAddD | fpSubS | fpSubD | fpMulS | fpMulD | fpDivS | fpDivD | fpSqrtS | fpSqrtD | fpAbsS | fpAbsD | fpNegS
  | fpNegD | fpCvtSD | fpCvtSW | fpCvtDS | fpCvtDW => exact .needFpu (.needEvenFp (.finish ..))
  | fpRecipS | fpRecipD | fpRsqrtS | fpRsqrtD | fpMaddS | fpMaddD | fpMsubS | fpMsubD | fpNmaddS | fpNmaddD | fpNmsubS
  | fpNmsubD => exact .needFpu (.needMips4Fp (.needEvenFp (.finish ..)))
  | fpRoundLS | fpRoundLD | fpTruncLS | fpTruncLD | fpCeilLS | fpCeilLD | fpFloorLS | fpFloorLD | fpCvtLS | fpCvtLD =>
    exact .needFpu (.fpToLong ..)
  | fpRoundWS | fpRoundWD | fpTruncWS | fpTruncWD | fpCeilWS | fpCeilWD | fpFloorWS | fpFloorWD | fpCvtWS | fpCvtWD =>
    exact .needFpu (.fpToWord ..)
  | fpCvtSL | fpCvtDL => exact .needFpu (.fpFromDword ..)
  | fpCFS | fpCFD | fpCUnS | fpCUnD | fpCEqS | fpCEqD | fpCUeqS | fpCUeqD | fpCOltS | fpCOltD | fpCUltS | fpCUltD
  | fpCOleS | fpCOleD | fpCUleS | fpCUleD | fpCSfS | fpCSfD | fpCNgleS | fpCNgleD | fpCSeqS | fpCSeqD | fpCNglS
  | fpCNglD | fpCLtS | fpCLtD | fpCNgeS | fpCNgeD | fpCLeS | fpCLeD | fpCNgtS | fpCNgtD =>
    exact .needFpu (.fpCompare ..)

/-! ## Every step -/

theorem reject_keepsCanonical (s : State) (r : Reject) : KeepsCanonical s (s.reject r) := by
  cases r with
  | reserved => exact .raise _ rfl
  | cop0 => exact .needCp0 (.raise _ rfl)
  | cop1Unimplemented => exact .needFpu (.raiseUnimplemented s)
  | cop1LongInvalid => exact .needFpu (.need64 (.raiseUnimplemented s))
  | cop2 => exact .ite (.raise _ rfl) (.raise _ rfl)

theorem State.Canonical.runInstr (h : s.Canonical) (ht : s.runInstr = .next t) : t.Canonical := by
  obtain ⟨e, rfl⟩ | ⟨pa, hrun⟩ := runInstr_cases ht
  · exact h.of_mem_eq (by simp)
  obtain ⟨r, hr⟩ | ⟨i, w, hi⟩ := runAt_cases hrun
  · exact (reject_keepsCanonical _ r).of_next (h.of_mem_eq (by simp)) t hr
  · exact (exec_keepsCanonical _ i).of_next (h.of_mem_eq (by simp)) t hi

theorem State.Canonical.afterEvents (h : s.Canonical) (ht : s.afterEvents = .next t) : t.Canonical := by
  obtain ⟨p, rfl⟩ | rfl | rfl | rfl | ⟨b, rfl⟩ | rfl | hrun := afterEvents_cases ht
  case inr.inr.inr.inr.inr.inr => exact h.runInstr hrun
  case inr.inr.inr.inr.inr.inl => exact h.of_mem_eq (takeException_mem ..)
  all_goals exact h.of_mem_eq rfl

/-- Settles O5: the events write no memory, and each way a step ends keeps it canonical. -/
theorem stepKeepsMemoryCanonical : Obligations.StepKeepsMemoryCanonical := fun s _ hs hstep =>
  State.Canonical.afterEvents (hs.of_mem_eq (deliver_mem s)) hstep

end Sys2Proof.Machine
end

section
/-! O27: a memory item is made of its bytes. A store is `State.byteAt_memWrite_inside` of the model's laws; a load is
the same said of `littleValue`, which puts bytes together. -/

open Sys2Proof

namespace Sys2Proof.Machine

/-! ## The bytes of a value -/

theorem littleValue_lt (bs : List Byte) : littleValue bs < 2 ^ (8 * bs.length) := by
  induction bs with
  | nil => simp [littleValue]
  | cons b bs ih =>
    have hb := b.isLt
    rw [littleValue, List.length_cons, Nat.mul_succ, Nat.pow_add]
    omega

/-- `littleValue` undoes `littleBytes`. -/
theorem littleValue_byte (bs : List Byte) (i : Nat) (h : i < bs.length) :
    BitVec.ofNat 8 (littleValue bs / 2 ^ (8 * i)) = bs[i] := by
  induction bs generalizing i with
  | nil => simp at h
  | cons b bs ih =>
    have hb := b.isLt
    cases i with
    | zero =>
      apply BitVec.eq_of_toNat_eq
      rw [List.getElem_cons_zero, littleValue, BitVec.toNat_ofNat]
      omega
    | succ i =>
      have hdiv : littleValue (b :: bs) / 2 ^ 8 = littleValue bs := by rw [littleValue]; omega
      rw [Nat.mul_succ, Nat.add_comm, Nat.pow_add, ← Nat.div_div_eq_div_mul, hdiv]
      exact ih i (Nat.lt_of_succ_lt_succ h)

theorem readBytes_getElem (m : List Host.Cell) (a n i : Nat) (h : i < (Memory.readBytes m a n).length) :
    (Memory.readBytes m a n)[i] = Memory.read m (a + i) := by
  induction n generalizing a i with
  | zero => simp [Memory.readBytes] at h
  | succ n ih =>
    cases i with
    | zero => rfl
    | succ i =>
      have h' : i < (Memory.readBytes m (a + 1) n).length := by simpa [Memory.readBytes] using h
      simp only [Memory.readBytes, List.getElem_cons_succ]
      rw [ih (a + 1) i h', Nat.add_assoc, Nat.add_comm 1]

theorem inByteOrder_getElem (be : Bool) (bs : List Byte) (i : Nat) (h : i < (inByteOrder be bs).length) :
    (inByteOrder be bs)[i] = bs[if be then bs.length - 1 - i else i]'(by
      rw [inByteOrder_length] at h; split <;> omega) := by
  cases be with
  | false => rfl
  | true => simp [inByteOrder]

/-! ## Loads -/

theorem State.memRead_toNat (s : State) (pa : PAddr) {n : Nat} (hn : n ≤ 8) :
    (s.memRead pa n).toNat = littleValue (inByteOrder s.pins.bigEndian (Memory.readBytes s.mem pa.toNat n)) ∧
      (s.memRead pa n).toNat < 2 ^ (8 * n) := by
  have hlt := littleValue_lt (inByteOrder s.pins.bigEndian (Memory.readBytes s.mem pa.toNat n))
  rw [inByteOrder_length, readBytes_length] at hlt
  have hle : 2 ^ (8 * n) ≤ 2 ^ 64 := Nat.pow_le_pow_right (by decide) (by omega)
  have h : (s.memRead pa n).toNat = _ := BitVec.toNat_ofNat _ 64
  rw [Nat.mod_eq_of_lt (Nat.lt_of_lt_of_le hlt hle)] at h
  exact ⟨h, h ▸ hlt⟩

/-- The byte `i` of a load from memory, by its number from the least significant end. -/
theorem State.memRead_byte (s : State) (pa : PAddr) {n i : Nat} (hn : n ≤ 8) (hi : i < n) :
    ((s.memRead pa n) >>> (8 * i)).setWidth 8 =
      s.byteAt (pa.toNat + if s.pins.bigEndian then n - 1 - i else i) := by
  have hbyte := littleValue_byte (inByteOrder s.pins.bigEndian (Memory.readBytes s.mem pa.toNat n)) i (by simpa using hi)
  rw [← (s.memRead_toNat pa hn).1, inByteOrder_getElem, readBytes_getElem, readBytes_length] at hbyte
  refine Eq.trans (BitVec.eq_of_toNat_eq ?_) hbyte
  simp [Nat.shiftRight_eq_div_pow]

theorem State.memRead_getLsbD_of_le (s : State) (pa : PAddr) {n i : Nat} (hn : n ≤ 8) (hi : 8 * n ≤ i) :
    (s.memRead pa n).getLsbD i = false :=
  Nat.testBit_lt_two_pow (Nat.lt_of_lt_of_le (s.memRead_toNat pa hn).2 (Nat.pow_le_pow_right (by decide) hi))

/-- Settles O27. -/
theorem memoryItems : Obligations.MemoryItems := fun s pa n i v hn =>
  ⟨s.memRead_byte pa hn, s.memRead_getLsbD_of_le pa hn, fun hs => State.byteAt_memWrite_inside hs pa n v i,
    s.byteAt_memWrite_outside pa n v⟩

end Sys2Proof.Machine
end

section
/-! O34, O35 and O36: address translation. The laws say which addresses are legal and which are unmapped, as ranges;
what the checks of `dataAddr` and `instrAddr` leave to `translate`; and what `translate` answers through the TLB. -/

open Sys2Proof

namespace Sys2Proof.Machine

variable {s : State} {st : Status} {va : Dword}

/-! ## Legal addresses (20_memory.md rules R105, R106)

A condition on bits of an address is one on its quotients; `omega` then finds the range. -/

theorem extractLsb'_eq_iff (va : Dword) (start len : Nat) (c : BitVec len) :
    va.extractLsb' start len = c ↔ va.toNat / 2 ^ start % 2 ^ len = c.toNat := by
  rw [← BitVec.toNat_inj, BitVec.extractLsb'_toNat, Nat.shiftRight_eq_div_pow]

theorem getLsbD_eq_true_iff (va : Dword) (i : Nat) : va.getLsbD i = true ↔ va.toNat / 2 ^ i % 2 = 1 := by
  rw [BitVec.getLsbD, Nat.testBit_eq_decide_div_mod_eq, decide_eq_true_iff]

theorem sext_low_eq_iff (va : Dword) :
    sext (low va) = va ↔ va.toNat < 0x80000000 ∨ 0xFFFFFFFF80000000 ≤ va.toNat := by
  have hva := va.isLt
  rw [← BitVec.toNat_inj, sext, low, BitVec.toNat_signExtend, BitVec.msb_eq_decide]
  simp
  split <;> omega

theorem addrLegal_user32 (hm : st.mode = .user) (hw : st.addr64 = false) :
    addrLegal st va = true ↔ va.toNat < 0x80000000 := by
  have hva := va.isLt
  simp [addrLegal, hm, hw, sext_low_eq_iff, ← Bool.not_eq_true, getLsbD_eq_true_iff, -BitVec.getLsbD_eq_getElem]
  omega

theorem addrLegal_user64 (hm : st.mode = .user) (hw : st.addr64 = true) :
    addrLegal st va = true ↔ va.toNat < 0x10000000000 := by
  have hva := va.isLt
  simp [addrLegal, hm, hw, extractLsb'_eq_iff]
  omega

theorem addrLegal_supervisor32 (hm : st.mode = .supervisor) (hw : st.addr64 = false) : addrLegal st va = true ↔
    va.toNat < 0x80000000 ∨ 0xFFFFFFFFC0000000 ≤ va.toNat ∧ va.toNat < 0xFFFFFFFFE0000000 := by
  have hva := va.isLt
  simp [addrLegal, hm, hw, sext_low_eq_iff, ← Bool.not_eq_true, getLsbD_eq_true_iff, extractLsb'_eq_iff,
    -BitVec.getLsbD_eq_getElem]
  omega

theorem addrLegal_supervisor64 (hm : st.mode = .supervisor) (hw : st.addr64 = true) : addrLegal st va = true ↔
    va.toNat < 0x10000000000 ∨ (0x4000000000000000 ≤ va.toNat ∧ va.toNat < 0x4000010000000000) ∨
      0xFFFFFFFFC0000000 ≤ va.toNat ∧ va.toNat < 0xFFFFFFFFE0000000 := by
  have hva := va.isLt
  simp [addrLegal, hm, hw, ← Bool.not_eq_true, getLsbD_eq_true_iff, extractLsb'_eq_iff,
    -BitVec.getLsbD_eq_getElem]
  omega

theorem addrLegal_kernel32 (hm : st.mode = .kernel) (hw : st.addr64 = false) : addrLegal st va = true ↔
    va.toNat < 0x80000000 ∨ 0xFFFFFFFF80000000 ≤ va.toNat := by
  simp [addrLegal, hm, hw, sext_low_eq_iff]

theorem addrLegal_kernel64 (hm : st.mode = .kernel) (hw : st.addr64 = true) : addrLegal st va = true ↔
    va.toNat < 0x10000000000 ∨ (0x4000000000000000 ≤ va.toNat ∧ va.toNat < 0x4000010000000000) ∨
      (0x8000000000000000 ≤ va.toNat ∧ va.toNat < 0xC000000000000000 ∧
        va.toNat % 0x800000000000000 < 0x1000000000) ∨
      (0xC000000000000000 ≤ va.toNat ∧ va.toNat < 0xC00000FF80000000) ∨ 0xFFFFFFFF80000000 ≤ va.toNat := by
  have hva := va.isLt
  simp [addrLegal, hm, hw, ← Bool.not_eq_true, getLsbD_eq_true_iff, extractLsb'_eq_iff,
    -BitVec.getLsbD_eq_getElem]
  split_ifs <;> omega

/-! ## The checks before translation (rules R111, R112) -/

theorem dataAddr_addressError {n : Nat} {store : Bool} (h : va.toNat % n ≠ 0 ∨ addrLegal s.status va = false) :
    s.dataAddr va n store = .error (.addressErrorData va store) := if_pos (by simpa using h)

theorem dataAddr_eq_translate {n : Nat} {store : Bool} (hn : va.toNat % n = 0) (hl : addrLegal s.status va = true) :
    s.dataAddr va n store = s.translate va store := if_neg (by simp [hn, hl])

theorem instrAddr_addressError (h : s.pc.toNat % 4 ≠ 0 ∨ addrLegal s.status s.pc = false) :
    s.instrAddr = .error (.addressErrorFetch s.pc) := if_pos (by simpa using h)

theorem instrAddr_eq_translate (hn : s.pc.toNat % 4 = 0) (hl : addrLegal s.status s.pc = true) :
    s.instrAddr = s.translate s.pc false := if_neg (by simp [hn, hl])

/-- Translation raises nothing but TLB exceptions, and TLB modified for stores alone. -/
theorem translate_error {store : Bool} {e : Exc} (h : s.translate va store = .error e) :
    (∃ m, e = .tlbRefill va store m) ∨ e = .tlbInvalid va store ∨ store = true ∧ e = .tlbModified va := by
  unfold State.translate at h
  split at h
  · cases h
  split at h
  · exact .inl ⟨false, (Except.error.inj h).symm⟩
  · exact .inl ⟨true, (Except.error.inj h).symm⟩
  dsimp only at h
  split at h
  · exact .inr (.inl (Except.error.inj h).symm)
  split at h
  · next hd => exact .inr (.inr ⟨(Bool.and_eq_true_iff.1 hd).1, (Except.error.inj h).symm⟩)
  · cases h

/-- A fetch is translated as a load, and its address error is another exception. -/
theorem instrAddr_cases (s : State) : s.instrAddr = s.dataAddr s.pc 4 false ∨
    s.instrAddr = .error (.addressErrorFetch s.pc) ∧
      s.dataAddr s.pc 4 false = .error (.addressErrorData s.pc false) := by
  by_cases h : s.pc.toNat % 4 ≠ 0 ∨ addrLegal s.status s.pc = false
  · exact .inr ⟨instrAddr_addressError h, dataAddr_addressError h⟩
  · obtain ⟨hn, hl⟩ : s.pc.toNat % 4 = 0 ∧ addrLegal s.status s.pc = true := by simpa using h
    exact .inl ((instrAddr_eq_translate hn hl).trans (dataAddr_eq_translate hn hl).symm)

/-- Settles O34: in each mode the legal addresses are its ranges, and only legal aligned addresses are translated. -/
theorem addressCheck : Obligations.AddressCheck := by
  intro s Legal
  have legal_iff (va : Dword) : Legal va ↔ addrLegal s.status va = true := by
    dsimp only [Legal]
    split
    · next hm hw => exact (addrLegal_user32 hm hw).symm
    · next hm hw => exact (addrLegal_user64 hm hw).symm
    · next hm hw => exact (addrLegal_supervisor32 hm hw).symm
    · next hm hw => exact (addrLegal_supervisor64 hm hw).symm
    · next hm hw => exact (addrLegal_kernel32 hm hw).symm
    · next hm hw => exact (addrLegal_kernel64 hm hw).symm
  clear_value Legal
  simp only [legal_iff, Bool.not_eq_true]
  refine ⟨fun va n store => ⟨dataAddr_addressError, fun hn hl e he => ?_⟩, instrAddr_addressError,
    fun hn hl e he => ?_⟩
  · exact translate_error (dataAddr_eq_translate hn hl ▸ he)
  · obtain h | h | ⟨h, -⟩ := translate_error (instrAddr_eq_translate hn hl ▸ he)
    · exact .inl h
    · exact .inr h
    · contradiction

/-! ## Unmapped segments (rules R105, R108 to R110) -/

theorem kseg0_iff (va : Dword) : va.extractLsb' 29 35 = 0x7FFFFFFFC#35 ↔
    0xFFFFFFFF80000000 ≤ va.toNat ∧ va.toNat < 0xFFFFFFFFA0000000 := by
  have hva := va.isLt
  rw [extractLsb'_eq_iff, BitVec.toNat_ofNat]
  omega

theorem kseg1_iff (va : Dword) : va.extractLsb' 29 35 = 0x7FFFFFFFD#35 ↔
    0xFFFFFFFFA0000000 ≤ va.toNat ∧ va.toNat < 0xFFFFFFFFC0000000 := by
  have hva := va.isLt
  rw [extractLsb'_eq_iff, BitVec.toNat_ofNat]
  omega

theorem xkphys_iff (va : Dword) : va.extractLsb' 62 2 = 0b10#2 ↔
    0x8000000000000000 ≤ va.toNat ∧ va.toNat < 0xC000000000000000 := by
  have hva := va.isLt
  rw [extractLsb'_eq_iff, BitVec.toNat_ofNat]
  omega

/-- The physical address of an address in kseg0 or kseg1. -/
theorem kseg_pa_eq (base : Nat) (hb : base % 2 ^ 29 = 0) (hle : base ≤ va.toNat) (hlt : va.toNat < base + 2 ^ 29) :
    (0#7 ++ va.extractLsb' 0 29 : PAddr) = BitVec.ofNat 36 (va.toNat - base) := by
  apply BitVec.eq_of_toNat_eq
  rw [BitVec.toNat_append]
  simp
  omega

theorem busAddr_ofNat (p : Pins) (a : Nat) :
    p.busAddr (BitVec.ofNat 36 a) = BitVec.ofNat 36 (a % if p.busMode64 then 2 ^ 36 else 2 ^ 32) := by
  apply BitVec.eq_of_toNat_eq
  unfold Pins.busAddr
  split
  · simp
  · rw [BitVec.toNat_append]
    simp
    omega

/-- A physical address of the low 4 gigabytes is the same on both buses. -/
theorem busAddr_ofNat_of_lt (p : Pins) {a : Nat} (h : a < 2 ^ 32) :
    p.busAddr (BitVec.ofNat 36 a) = BitVec.ofNat 36 a := by
  rw [busAddr_ofNat, Nat.mod_eq_of_lt (by split <;> omega)]

section Segments
variable (k0 : CacheAttr)

theorem segmentOf_of_not_kernel (hm : st.mode ≠ .kernel) : segmentOf st k0 va = .mapped := by
  unfold segmentOf
  split
  · contradiction
  · rfl

variable (hm : st.mode = .kernel)
include hm

/-- The segments of kernel mode, by ranges. -/
theorem segmentOf_kernel : segmentOf st k0 va =
    if st.erl = true ∧ va.toNat < 0x80000000 then .unmapped (va.setWidth 36) uncachedAttr
    else if 0xFFFFFFFF80000000 ≤ va.toNat ∧ va.toNat < 0xFFFFFFFFA0000000 then
      .unmapped (0#7 ++ va.extractLsb' 0 29) k0
    else if 0xFFFFFFFFA0000000 ≤ va.toNat ∧ va.toNat < 0xFFFFFFFFC0000000 then
      .unmapped (0#7 ++ va.extractLsb' 0 29) uncachedAttr
    else if st.addr64 = true ∧ 0x8000000000000000 ≤ va.toNat ∧ va.toNat < 0xC000000000000000 then
      .unmapped (va.extractLsb' 0 36) (va.extractLsb' 59 3)
    else .mapped := by
  simp only [segmentOf, hm, kseg0_iff, kseg1_iff, xkphys_iff, Bool.and_eq_true, decide_eq_true_iff,
    Nat.reducePow]

theorem segmentOf_erl (herl : st.erl = true) (hlt : va.toNat < 0x80000000) :
    segmentOf st k0 va = .unmapped (BitVec.ofNat 36 va.toNat) 2 := by
  rw [segmentOf_kernel k0 hm, if_pos ⟨herl, hlt⟩]
  rfl

theorem segmentOf_kseg0 (hle : 0xFFFFFFFF80000000 ≤ va.toNat) (hlt : va.toNat < 0xFFFFFFFFA0000000) :
    segmentOf st k0 va = .unmapped (BitVec.ofNat 36 (va.toNat - 0xFFFFFFFF80000000)) k0 := by
  rw [segmentOf_kernel k0 hm, if_neg (by omega), if_pos ⟨hle, hlt⟩, kseg_pa_eq _ (by decide) hle hlt]

theorem segmentOf_kseg1 (hle : 0xFFFFFFFFA0000000 ≤ va.toNat) (hlt : va.toNat < 0xFFFFFFFFC0000000) :
    segmentOf st k0 va = .unmapped (BitVec.ofNat 36 (va.toNat - 0xFFFFFFFFA0000000)) 2 := by
  rw [segmentOf_kernel k0 hm, if_neg (by omega), if_neg (by omega), if_pos ⟨hle, hlt⟩,
    kseg_pa_eq _ (by decide) hle hlt]
  rfl

theorem segmentOf_xkphys (hw : st.addr64 = true) (hle : 0x8000000000000000 ≤ va.toNat)
    (hlt : va.toNat < 0xC000000000000000) :
    segmentOf st k0 va = .unmapped (BitVec.ofNat 36 va.toNat) (BitVec.ofNat 3 (va.toNat / 2 ^ 59 % 8)) := by
  rw [segmentOf_kernel k0 hm, if_neg (by omega), if_neg (by omega), if_neg (by omega), if_pos ⟨hw, hle, hlt⟩]
  congr 1
  apply BitVec.eq_of_toNat_eq
  simp [Nat.shiftRight_eq_div_pow]

theorem segmentOf_kernel_eq_mapped_iff : segmentOf st k0 va = .mapped ↔
    ¬ (0xFFFFFFFF80000000 ≤ va.toNat ∧ va.toNat < 0xFFFFFFFFC0000000) ∧
    ¬ (st.erl = true ∧ va.toNat < 0x80000000) ∧
    ¬ (st.addr64 = true ∧ 0x8000000000000000 ≤ va.toNat ∧ va.toNat < 0xC000000000000000) := by
  rw [segmentOf_kernel k0 hm]
  split_ifs with herl hkseg0 hkseg1 hxkphys
  · simp [herl]
  · simp; omega
  · simp; omega
  · simp [hxkphys]
  · simp only [herl, hxkphys, not_false_iff, and_true, true_iff]
    omega

end Segments

theorem dataAddr_unmapped {n : Nat} {store : Bool} {pa : PAddr} {attr : CacheAttr} (hn : va.toNat % n = 0)
    (hl : addrLegal s.status va = true) (h : segmentOf s.status s.cp0.config.k0 va = .unmapped pa attr) :
    s.dataAddr va n store = .ok (s.pins.busAddr pa, attr) := by
  rw [dataAddr_eq_translate hn hl, State.translate, h]

/-- In kernel mode the sign-extended words are legal addresses whatever the width. -/
theorem addrLegal_kernel_of_word (hm : st.mode = .kernel)
    (h : va.toNat < 0x80000000 ∨ 0xFFFFFFFF80000000 ≤ va.toNat) : addrLegal st va = true := by
  cases hw : st.addr64 with
  | false => exact (addrLegal_kernel32 hm hw).2 h
  | true => exact (addrLegal_kernel64 hm hw).2 (by omega)

/-- Settles O35, segment by segment. -/
theorem unmappedSegments : Obligations.UnmappedSegments := by
  intro s va n store
  refine ⟨fun hm hn => ⟨fun hle hlt => ?_, fun hle hlt => ?_, fun herl hlt => ?_, fun hw hle hlt hpa => ?_⟩, ?_⟩
  · rw [dataAddr_unmapped hn (addrLegal_kernel_of_word hm (.inr hle)) (segmentOf_kseg0 _ hm hle hlt),
      busAddr_ofNat_of_lt _ (by omega)]
  · rw [dataAddr_unmapped hn (addrLegal_kernel_of_word hm (.inr (by omega))) (segmentOf_kseg1 _ hm hle hlt),
      busAddr_ofNat_of_lt _ (by omega)]
  · rw [dataAddr_unmapped hn (addrLegal_kernel_of_word hm (.inl hlt)) (segmentOf_erl _ hm herl hlt),
      busAddr_ofNat_of_lt _ (by omega)]
  · have hl : addrLegal s.status va = true := (addrLegal_kernel64 hm hw).2 (by omega)
    rw [dataAddr_unmapped hn hl (segmentOf_xkphys _ hm hw hle hlt), busAddr_ofNat]
  · by_cases hm : s.status.mode = .kernel
    · rw [segmentOf_kernel_eq_mapped_iff _ hm]
      simp only [hm, ne_eq, not_true_eq_false, false_or]
    · simp only [segmentOf_of_not_kernel _ hm, hm, ne_eq, not_false_iff, true_or]

/-! ## Matching entries (rule R115) -/

theorem getLsbD_vpnMask (mask : BitVec 18) (j : Nat) : (vpnMask mask).getLsbD j = mask.getLsbD j := by
  rw [vpnMask, BitVec.getLsbD_append]
  split
  · rfl
  · simp [BitVec.getLsbD_of_ge mask j (by omega)]

/-- Page numbers are equal under MASK, in their low `n` bits, when they are equal in each bit that MASK leaves. -/
theorem maskedVpn_eq_iff (mask : BitVec 18) (x y : BitVec 27) {n : Nat} (hn : n ≤ 27) :
    (x &&& ~~~vpnMask mask).setWidth n = (y &&& ~~~vpnMask mask).setWidth n ↔
      ∀ j < n, mask.getLsbD j = false → y.getLsbD j = x.getLsbD j := by
  rw [BitVec.eq_of_getLsbD_eq_iff]
  refine forall₂_congr fun j hj => ?_
  simp only [BitVec.getLsbD_setWidth, BitVec.getLsbD_and, BitVec.getLsbD_not, getLsbD_vpnMask, hj,
    show j < 27 by omega, decide_true, Bool.true_and]
  cases mask.getLsbD j <;> simp [eq_comm]

theorem TlbEntry.hits_iff (e : TlbEntry) (wide : Bool) (r : BitVec 2) (vpn2 : BitVec 27) (asid : BitVec 8) :
    e.hits wide r vpn2 asid = true ↔ (e.g = true ∨ e.asid = asid) ∧ (wide = true → e.r = r) ∧
      ∀ j < 27, (wide = true ∨ j < 19) → e.mask.getLsbD j = false → e.vpn2.getLsbD j = vpn2.getLsbD j := by
  cases wide with
  | true =>
    have h := maskedVpn_eq_iff e.mask vpn2 e.vpn2 (Nat.le_refl 27)
    simp only [BitVec.setWidth_eq] at h
    simp [TlbEntry.hits, h]
  | false =>
    have h := maskedVpn_eq_iff e.mask vpn2 e.vpn2 (n := 19) (by decide)
    simp only [TlbEntry.hits, h, Bool.and_eq_true, Bool.or_eq_true, decide_eq_true_iff, Bool.false_eq_true, if_false,
      false_or, false_implies, true_and]
    exact and_congr_right fun _ => ⟨fun h j _ => h j, fun h j hj => h j (by omega) hj⟩

theorem State.mem_tlbHits_iff (s : State) (r : BitVec 2) (vpn2 : BitVec 27) (e : TlbEntry) (k : Nat) :
    (e, k) ∈ s.tlbHits r vpn2 ↔
      s.tlb[k]? = some e ∧ e.hits s.status.addr64 r vpn2 s.cp0.entryHi.asid = true := by
  rw [State.tlbHits, List.mem_filter, List.mk_mem_zipIdx_iff_getElem?, Vector.getElem?_toList]

/-- The numbers of the entries tell the matches apart. -/
theorem State.tlbHits_nodup (s : State) (r : BitVec 2) (vpn2 : BitVec 27) : (s.tlbHits r vpn2).Nodup :=
  (List.nodup_zipIdx_map_snd _).of_map.filter _

/-! ## The page frame (rules R117, R118) -/

/-- MASK with `j` low bits set selects the half by bit `j` of the page number. -/
theorem contiguousMask_succ {j : Nat} (hj : j ≤ 18) :
    (BitVec.ofNat 18 (2 ^ j - 1)).setWidth 19 + 1 = BitVec.twoPow 19 j := by
  have hpos : 0 < 2 ^ j := Nat.two_pow_pos j
  have hle : 2 ^ j ≤ 2 ^ 18 := Nat.pow_le_pow_right (by decide) hj
  apply BitVec.eq_of_toNat_eq
  simp
  omega

theorem TlbEntry.oddPage_eq {e : TlbEntry} {j : Nat} (hj : j ≤ 18) (he : e.mask = BitVec.ofNat 18 (2 ^ j - 1))
    (va : Dword) : e.oddPage va = va.getLsbD (12 + j) := by
  have hne : BitVec.twoPow 19 j ≠ 0#19 := fun h => by
    have := congrArg (BitVec.getLsbD · j) h
    simp at this
    omega
  have hbit : (va.extractLsb' 12 19).getLsbD j = va.getLsbD (12 + j) := by simp [show j < 19 by omega]
  rw [TlbEntry.oddPage, he, contiguousMask_succ hj, BitVec.and_twoPow, hbit]
  cases va.getLsbD (12 + j) <;> simp [hne]

theorem getLsbD_physAddr (pfn : BitVec 24) (mask : BitVec 18) (va : Dword) {i : Nat} (hi : i < 36) :
    (physAddr pfn mask va).getLsbD i = if i < 12 then va.getLsbD i
      else if mask.getLsbD (i - 12) then va.getLsbD i else pfn.getLsbD (i - 12) := by
  rw [physAddr, BitVec.getLsbD_append]
  split
  · next h => simp [h]
  · next h =>
    have hi' : i - 12 < 24 := by omega
    have hva : 12 + (i - 12) = i := by omega
    simp only [BitVec.getLsbD_or, BitVec.getLsbD_and, BitVec.getLsbD_not, BitVec.getLsbD_setWidth,
      BitVec.getLsbD_extractLsb', hi', hva, decide_true, Bool.true_and]
    cases mask.getLsbD (i - 12) <;> simp

theorem getLsbD_busAddr (p : Pins) (pa : PAddr) (i : Nat) :
    (p.busAddr pa).getLsbD i = if 32 ≤ i ∧ p.busMode64 = false then false else pa.getLsbD i := by
  unfold Pins.busAddr
  split
  · next h => simp [h]
  · next h =>
    rw [BitVec.getLsbD_append]
    split
    · next hi => simp [hi]
    · next hi => simp [h, Nat.le_of_not_lt hi]

/-! ## Translation through the TLB (rules R111, R115 to R118)

What a legal aligned address of a mapped segment has of its lookup. -/

section Mapped
variable {n : Nat} {store : Bool} (hn : va.toNat % n = 0) (hl : addrLegal s.status va = true)
  (hmap : segmentOf s.status s.cp0.config.k0 va = .mapped)
include hn hl hmap

theorem dataAddr_noMatch (h : s.tlbLookup va = .noMatch) :
    s.dataAddr va n store = .error (.tlbRefill va store false) := by
  simp only [dataAddr_eq_translate hn hl, State.translate, hmap, h]

theorem dataAddr_multipleMatch (h : s.tlbLookup va = .multipleMatch) :
    s.dataAddr va n store = .error (.tlbRefill va store true) := by
  simp only [dataAddr_eq_translate hn hl, State.translate, hmap, h]

theorem dataAddr_match {e : TlbEntry} (h : s.tlbLookup va = .match_ e) :
    s.dataAddr va n store =
      if (e.half va).v = false then .error (.tlbInvalid va store)
      else if store = true ∧ (e.half va).d = false then .error (.tlbModified va)
      else .ok (s.pins.busAddr (physAddr (e.half va).pfn e.mask va), (e.half va).c) := by
  simp only [dataAddr_eq_translate hn hl, State.translate, hmap, h, Bool.and_eq_true, Bool.not_eq_true']

end Mapped

theorem tlbLookup_of_nil (h : s.tlbHits (va.extractLsb' 62 2) (va.extractLsb' 13 27) = []) :
    s.tlbLookup va = .noMatch := by
  rw [State.tlbLookup, h]

theorem tlbLookup_of_singleton {e : TlbEntry} {k : Nat}
    (h : s.tlbHits (va.extractLsb' 62 2) (va.extractLsb' 13 27) = [(e, k)]) : s.tlbLookup va = .match_ e := by
  rw [State.tlbLookup, h]

theorem tlbLookup_of_two_le (h : 2 ≤ (s.tlbHits (va.extractLsb' 62 2) (va.extractLsb' 13 27)).length) :
    s.tlbLookup va = .multipleMatch := by
  unfold State.tlbLookup
  split
  · next h0 => simp [h0] at h
  · next h1 => simp [h1] at h
  · rfl

/-- Settles O36: the matches bit by bit, the answers of a lookup, and the fetch as a load. -/
theorem tlbTranslation : Obligations.TlbTranslation := by
  refine ⟨fun s r vpn2 => ⟨s.tlbHits_nodup r vpn2, fun e k => ?_⟩, fun s va n store hn hl hmap => ?_, fun s => ?_⟩
  · rw [State.mem_tlbHits_iff, TlbEntry.hits_iff]
  · refine ⟨fun h => dataAddr_noMatch hn hl hmap (tlbLookup_of_nil h),
      fun h => dataAddr_multipleMatch hn hl hmap (tlbLookup_of_two_le h), fun e k h => ?_⟩
    have answer := dataAddr_match (store := store) hn hl hmap (tlbLookup_of_singleton h)
    refine ⟨fun hv => ?_, fun hv hst hd => ?_,
      fun hv hd => ⟨s.pins.busAddr (physAddr (e.half va).pfn e.mask va), ?_, fun i hi => ?_⟩, fun j hj he => ?_⟩
    · rw [answer, if_pos hv]
    · rw [answer, if_neg (by simp [hv]), if_pos ⟨hst, hd⟩]
    · rw [answer, if_neg (by simp [hv]), if_neg (by grind)]
    · rw [getLsbD_busAddr, getLsbD_physAddr _ _ _ hi]
    · rw [TlbEntry.half, TlbEntry.oddPage_eq hj he]
  · obtain h | ⟨hi, hd⟩ := instrAddr_cases s
    · simp [h]
    · simp [hi, hd]

end Sys2Proof.Machine
end

section
/-! O3, O4 and O2: the decoder and the encoder. The fields of a packed word are what it was packed from, each opcode
map is reached by the fields that select it, and so the word of an instruction leads back to the instruction. -/

open Sys2Proof

namespace Sys2Proof

-- One declaration after the other: the threads of a parallel elaboration do not fit in the memory that the check has.
set_option Elab.async false

/-! ## The fields of a packed word (30_encoding.md rules R201 to R204) -/

section PackedFields
variable (op fn : BitVec 6) (a b c d : BitVec 5) (imm : BitVec 16) (target : BitVec 26) (code20 : BitVec 20)
  (code19 : BitVec 19) (code10 : BitVec 10) (cc : BitVec 3) (nd tf counter : BitVec 1) (reg : BitVec 5)

theorem opOf_packI : opOf (packI op a b imm) = op := by ext i hi; simp [opOf, packI]; grind
theorem f1Of_packI : f1Of (packI op a b imm) = a := by ext i hi; simp [f1Of, packI]; grind
theorem f2Of_packI : f2Of (packI op a b imm) = b := by ext i hi; simp [f2Of, packI]; grind
theorem immOf_packI : immOf (packI op a b imm) = imm := BitVec.extractLsb'_append_eq_right
theorem coOf_packI : coOf (packI op a b imm) = a.msb := by
  simp [coOf, code20Of, packI, BitVec.msb_eq_getLsbD_last]; grind

theorem opOf_packJ : opOf (packJ op target) = op := BitVec.extractLsb'_append_eq_left
theorem targetOf_packJ : targetOf (packJ op target) = target := BitVec.extractLsb'_append_eq_right

theorem opOf_packR : opOf (packR op a b c d fn) = op := by ext i hi; simp [opOf, packR]; grind
theorem f1Of_packR : f1Of (packR op a b c d fn) = a := by ext i hi; simp [f1Of, packR]; grind
theorem f2Of_packR : f2Of (packR op a b c d fn) = b := by ext i hi; simp [f2Of, packR]; grind
theorem f3Of_packR : f3Of (packR op a b c d fn) = c := by ext i hi; simp [f3Of, packR]; grind
theorem f4Of_packR : f4Of (packR op a b c d fn) = d := by ext i hi; simp [f4Of, packR]; grind
theorem fnOf_packR : fnOf (packR op a b c d fn) = fn := BitVec.extractLsb'_append_eq_right
theorem coOf_packR : coOf (packR op a b c d fn) = a.msb := by
  simp [coOf, code20Of, packR, BitVec.msb_eq_getLsbD_last]; grind

theorem opOf_packTrap : opOf (packTrap op a b code10 fn) = op := by ext i hi; simp [opOf, packTrap]; grind
theorem f1Of_packTrap : f1Of (packTrap op a b code10 fn) = a := by ext i hi; simp [f1Of, packTrap]; grind
theorem f2Of_packTrap : f2Of (packTrap op a b code10 fn) = b := by ext i hi; simp [f2Of, packTrap]; grind
theorem code10Of_packTrap : code10Of (packTrap op a b code10 fn) = code10 := by
  ext i hi; simp [code10Of, packTrap]; grind
theorem fnOf_packTrap : fnOf (packTrap op a b code10 fn) = fn := BitVec.extractLsb'_append_eq_right

theorem opOf_packCode : opOf (packCode op code20 fn) = op := by ext i hi; simp [opOf, packCode]; grind
theorem code20Of_packCode : code20Of (packCode op code20 fn) = code20 := by
  ext i hi; simp [code20Of, packCode]; grind
theorem fnOf_packCode : fnOf (packCode op code20 fn) = fn := BitVec.extractLsb'_append_eq_right
theorem coOf_packCode : coOf (packCode op code20 fn) = code20.msb := by rw [coOf, code20Of_packCode]

/-! ### Fields within a field -/

theorem packCc_cc : (packCc cc nd tf).extractLsb' 2 3 = cc := by ext i hi; simp [packCc]; grind
theorem packCc_nd : (packCc cc nd tf).getLsbD 1 = nd.getLsbD 0 := by simp [packCc]; grind
theorem packCc_tf : (packCc cc nd tf).getLsbD 0 = tf.getLsbD 0 := by simp [packCc]; grind

theorem ccOf_packI : ccOf (packI op a (packCc cc nd tf) imm) = cc := by rw [ccOf, f2Of_packI, packCc_cc]
theorem ndOf_packI : ndOf (packI op a (packCc cc nd tf) imm) = nd.getLsbD 0 := by rw [ndOf, f2Of_packI, packCc_nd]
theorem tfOf_packI : tfOf (packI op a (packCc cc nd tf) imm) = tf.getLsbD 0 := by rw [tfOf, f2Of_packI, packCc_tf]
theorem ccOf_packR : ccOf (packR op a (packCc cc nd tf) c d fn) = cc := by rw [ccOf, f2Of_packR, packCc_cc]
theorem tfOf_packR : tfOf (packR op a (packCc cc nd tf) c d fn) = tf.getLsbD 0 := by
  rw [tfOf, f2Of_packR, packCc_tf]

theorem cmpCcOf_packR : cmpCcOf (packR op a b c (packCmpCc cc) fn) = cc := by
  rw [cmpCcOf, f4Of_packR]; exact BitVec.extractLsb'_append_eq_left

theorem perfRegOf_packR : perfRegOf (packR op a b c d (packPerf reg counter)) = reg := by
  rw [perfRegOf, fnOf_packR]; exact BitVec.extractLsb'_append_eq_left
theorem perfCounterBit_packR : perfCounterBit (packR op a b c d (packPerf reg counter)) = counter.getLsbD 0 := by
  rw [perfCounterBit, fnOf_packR]; simp [packPerf]; grind

theorem code19Of_packCode : code19Of (packCode op (packWait code19) fn) = code19 := by
  rw [code19Of, code20Of_packCode]; exact BitVec.extractLsb'_append_eq_right
theorem msb_packWait : (packWait code19).msb = true := by rw [packWait, BitVec.msb_append]; rfl

end PackedFields

/-! ## The opcode maps (rules R207 to R214) -/

section Maps
variable {w : Word}

theorem decode_special (h : opOf w = 0b000000#6) : decode w = decodeSpecial w := by rw [decode, h]; rfl
theorem decode_regimm (h : opOf w = 0b000001#6) : decode w = decodeRegimm w := by rw [decode, h]; rfl
theorem decode_special2 (h : opOf w = 0b011100#6) : decode w = decodeSpecial2 w := by rw [decode, h]; rfl
theorem decode_cop0 (h : opOf w = 0b010000#6) : decode w = decodeCop0 w := by rw [decode, h]; rfl
theorem decode_cop1 (h : opOf w = 0b010001#6) : decode w = decodeCop1 w := by rw [decode, h]; rfl
theorem decode_cop1x (h : opOf w = 0b010011#6) : decode w = decodeCop1x w := by rw [decode, h]; rfl

theorem decode_mult (hop : opOf w = 0b000000#6) (hfn : fnOf w = 0b011000#6) : decode w = decodeMult w := by
  rw [decode_special hop, decodeSpecial, hfn]; rfl
theorem decode_multu (hop : opOf w = 0b000000#6) (hfn : fnOf w = 0b011001#6) : decode w = decodeMultu w := by
  rw [decode_special hop, decodeSpecial, hfn]; rfl

theorem decode_cop0Co (hop : opOf w = 0b010000#6) (hco : coOf w = true) : decode w = decodeCop0Co w := by
  rw [decode_cop0 hop, decodeCop0, if_pos hco]
theorem decode_bc0 (hop : opOf w = 0b010000#6) (hco : coOf w = false) (hf : f1Of w = 0b01000#5) :
    decode w = decodeBc0 w := by
  rw [decode_cop0 hop, decodeCop0, hco, hf]; rfl

theorem decode_fmtS (hop : opOf w = 0b010001#6) (hf : f1Of w = 0b10000#5) : decode w = decodeFmtS w := by
  rw [decode_cop1 hop, decodeCop1, hf]; rfl
theorem decode_fmtD (hop : opOf w = 0b010001#6) (hf : f1Of w = 0b10001#5) : decode w = decodeFmtD w := by
  rw [decode_cop1 hop, decodeCop1, hf]; rfl
theorem decode_fmtW (hop : opOf w = 0b010001#6) (hf : f1Of w = 0b10100#5) : decode w = decodeFmtW w := by
  rw [decode_cop1 hop, decodeCop1, hf]; rfl
theorem decode_fmtL (hop : opOf w = 0b010001#6) (hf : f1Of w = 0b10101#5) : decode w = decodeFmtL w := by
  rw [decode_cop1 hop, decodeCop1, hf]; rfl

end Maps

/-! ## Decoding what was encoded -/

/-- SSNOP's word is written only for the ill-formed shift (rule R208). -/
theorem packR_ne_ssnop {rt rd : RegNum} {sa : BitVec 5} (h : isSsnopShift rt rd sa = false) :
    packR 0b000000#6 0b00000#5 rt rd sa 0b000000#6 ≠ 0x00000040#32 := by
  intro hw
  have hrt : rt = 0 := (f2Of_packR ..).symm.trans (congrArg f2Of hw)
  have hrd : rd = 0 := (f3Of_packR ..).symm.trans (congrArg f3Of hw)
  have hsa : sa = 1 := (f4Of_packR ..).symm.trans (congrArg f4Of hw)
  simp [isSsnopShift, hrt, hrd, hsa] at h

/-- Each case goes to the map that reads the instruction's word, reads the fields that the word was packed from, and
the map's arm for them answers the instruction. -/
theorem decode_encode (i : Instr) (h : i.wellFormed = true) : decode (encode i) = .ok i := by
  cases i with dsimp only [encode]
  -- the major opcode map
  | addi | addiu | slti | sltiu | andi | ori | xori | daddi | daddiu | lui | lb | lh | lwl | lw | lbu | lhu | lwr | lwu
  | sb | sh | swl | sw | sdl | sdr | swr | ldl | ldr | ll | lld | ld | sc | scd | sd | cache | pref | lwc1 | ldc1 | swc1
  | sdc1 | beq | bne | beql | bnel | blez | bgtz | blezl | bgtzl =>
    rw [decode, opOf_packI, f1Of_packI, f2Of_packI, immOf_packI]; rfl
  | j | jal => rw [decode, opOf_packJ, targetOf_packJ]; rfl
  -- REGIMM
  | bltz | bgez | bltzl | bgezl | bltzal | bgezal | bltzall | bgezall | tgei | tgeiu | tlti | tltiu | teqi | tnei =>
    rw [decode_regimm (opOf_packI ..), decodeRegimm, f1Of_packI, f2Of_packI, immOf_packI]; rfl
  -- SPECIAL
  | add | addu | sub | subu | and | or | xor | nor | slt | sltu | dadd | daddu | dsub | dsubu | movz | movn | sllv
  | srav | dsllv | dsrav | srlv | rorv | dsrlv | drorv | ssnop | sra | dsll | dsra | dsll32 | dsra32 | srl | ror
  | dsrl | dror | dsrl32 | dror32 | jr | jalr | sync | mfhi | mthi | mflo | mtlo | div | divu | dmult | dmultu | ddiv
  | ddivu =>
    rw [decode_special (opOf_packR ..), decodeSpecial, fnOf_packR, f1Of_packR, f2Of_packR, f3Of_packR, f4Of_packR]; rfl
  | sll rt rd sa =>
    have hne := packR_ne_ssnop (by simpa [Instr.wellFormed] using h : isSsnopShift rt rd sa = false)
    rw [decode_special (opOf_packR ..), decodeSpecial, if_neg hne, fnOf_packR, f2Of_packR, f3Of_packR, f4Of_packR]; rfl
  | movf | movt =>
    rw [decode_special (opOf_packR ..), decodeSpecial, fnOf_packR, f1Of_packR, f3Of_packR, ccOf_packR, tfOf_packR]; rfl
  | syscall | breakpoint =>
    rw [decode_special (opOf_packCode ..), decodeSpecial, fnOf_packCode, code20Of_packCode]; rfl
  | tge | tgeu | tlt | tltu | teq | tne =>
    rw [decode_special (opOf_packTrap ..), decodeSpecial, fnOf_packTrap, f1Of_packTrap, f2Of_packTrap,
      code10Of_packTrap]; rfl
  | mult | mul | muls | macc | msac | mulhi | mulshi | macchi | msachi =>
    rw [decode_mult (opOf_packR ..) (fnOf_packR ..), decodeMult, f1Of_packR, f2Of_packR, f3Of_packR, f4Of_packR]; rfl
  | multu | mulu | mulsu | maccu | msacu | mulhiu | mulshiu | macchiu | msachiu =>
    rw [decode_multu (opOf_packR ..) (fnOf_packR ..), decodeMultu, f1Of_packR, f2Of_packR, f3Of_packR, f4Of_packR]; rfl
  -- SPECIAL2
  | madd | maddu | msub | msubu | mul64 | clz | clo | dclz | dclo =>
    rw [decode_special2 (opOf_packR ..), decodeSpecial2, fnOf_packR, f1Of_packR, f2Of_packR, f3Of_packR]; rfl
  -- COP0
  | mfc0 rt rd | mtc0 rt rd =>
    have hrd : isPerfReg rd = false := by simpa [Instr.wellFormed] using h
    rw [decode_cop0 (opOf_packR ..), decodeCop0, coOf_packR, f1Of_packR, f2Of_packR, f3Of_packR, hrd]; rfl
  | dmfc0 | dmtc0 => rw [decode_cop0 (opOf_packR ..), decodeCop0, coOf_packR, f1Of_packR, f2Of_packR, f3Of_packR]; rfl
  | mfpc | mfps | mtpc | mtps =>
    rw [decode_cop0 (opOf_packR ..), decodeCop0, coOf_packR, f1Of_packR, f2Of_packR, f3Of_packR, perfCounterBit_packR,
      perfRegOf_packR]; rfl
  | bc0f | bc0t | bc0fl | bc0tl =>
    rw [decode_bc0 (opOf_packI ..) (coOf_packI ..) (f1Of_packI ..), decodeBc0, f2Of_packI, immOf_packI]; rfl
  | tlbr | tlbwi | tlbwr | tlbp | eret =>
    rw [decode_cop0Co (opOf_packCode ..) (coOf_packCode ..), decodeCop0Co, fnOf_packCode]; rfl
  | wait =>
    rw [decode_cop0Co (opOf_packCode ..) ((coOf_packCode ..).trans (msb_packWait _)), decodeCop0Co, fnOf_packCode,
      code19Of_packCode]; rfl
  -- COP1
  | mfc1 | dmfc1 | cfc1 | mtc1 | dmtc1 | ctc1 =>
    rw [decode_cop1 (opOf_packR ..), decodeCop1, f1Of_packR, f2Of_packR, f3Of_packR]; rfl
  | bc1f | bc1t | bc1fl | bc1tl =>
    rw [decode_cop1 (opOf_packI ..), decodeCop1, f1Of_packI, ndOf_packI, tfOf_packI, ccOf_packI, immOf_packI]; rfl
  -- COP1 with format S
  | fpAddS | fpSubS | fpMulS | fpDivS | fpSqrtS | fpAbsS | fpMovS | fpNegS | fpRoundLS | fpTruncLS | fpCeilLS
  | fpFloorLS | fpRoundWS | fpTruncWS | fpCeilWS | fpFloorWS | fpRecipS | fpRsqrtS | fpCvtWS | fpCvtLS | fpCvtDS
  | fpMovzS | fpMovnS =>
    rw [decode_fmtS (opOf_packR ..) (f1Of_packR ..), decodeFmtS, fnOf_packR, f2Of_packR, f3Of_packR, f4Of_packR]; rfl
  | fpMovfS | fpMovtS =>
    rw [decode_fmtS (opOf_packR ..) (f1Of_packR ..), decodeFmtS, fnOf_packR, f3Of_packR, f4Of_packR, ccOf_packR,
      tfOf_packR]; rfl
  | fpCFS | fpCUnS | fpCEqS | fpCUeqS | fpCOltS | fpCUltS | fpCOleS | fpCUleS | fpCSfS | fpCNgleS | fpCSeqS | fpCNglS
  | fpCLtS | fpCNgeS | fpCLeS | fpCNgtS =>
    rw [decode_fmtS (opOf_packR ..) (f1Of_packR ..), decodeFmtS, fnOf_packR, f2Of_packR, f3Of_packR, cmpCcOf_packR]; rfl
  -- COP1 with format D
  | fpAddD | fpSubD | fpMulD | fpDivD | fpSqrtD | fpAbsD | fpMovD | fpNegD | fpRoundLD | fpTruncLD | fpCeilLD
  | fpFloorLD | fpRoundWD | fpTruncWD | fpCeilWD | fpFloorWD | fpRecipD | fpRsqrtD | fpCvtWD | fpCvtLD | fpCvtSD
  | fpMovzD | fpMovnD =>
    rw [decode_fmtD (opOf_packR ..) (f1Of_packR ..), decodeFmtD, fnOf_packR, f2Of_packR, f3Of_packR, f4Of_packR]; rfl
  | fpMovfD | fpMovtD =>
    rw [decode_fmtD (opOf_packR ..) (f1Of_packR ..), decodeFmtD, fnOf_packR, f3Of_packR, f4Of_packR, ccOf_packR,
      tfOf_packR]; rfl
  | fpCFD | fpCUnD | fpCEqD | fpCUeqD | fpCOltD | fpCUltD | fpCOleD | fpCUleD | fpCSfD | fpCNgleD | fpCSeqD | fpCNglD
  | fpCLtD | fpCNgeD | fpCLeD | fpCNgtD =>
    rw [decode_fmtD (opOf_packR ..) (f1Of_packR ..), decodeFmtD, fnOf_packR, f2Of_packR, f3Of_packR, cmpCcOf_packR]; rfl
  -- COP1 with formats W and L
  | fpCvtSW | fpCvtDW =>
    rw [decode_fmtW (opOf_packR ..) (f1Of_packR ..), decodeFmtW, fnOf_packR, f3Of_packR, f4Of_packR]; rfl
  | fpCvtSL | fpCvtDL =>
    rw [decode_fmtL (opOf_packR ..) (f1Of_packR ..), decodeFmtL, fnOf_packR, f3Of_packR, f4Of_packR]; rfl
  -- COP1X
  | lwxc1 | ldxc1 | luxc1 | swxc1 | sdxc1 | suxc1 | prefx | fpMaddS | fpMaddD | fpMsubS | fpMsubD | fpNmaddS | fpNmaddD
  | fpNmsubS | fpNmsubD =>
    rw [decode_cop1x (opOf_packR ..), decodeCop1x, fnOf_packR, f1Of_packR, f2Of_packR, f3Of_packR, f4Of_packR]; rfl

/-- Settles O3. -/
theorem decodeOfEncode : Obligations.DecodeOfEncode := decode_encode

/-- Refutes O4: the test for SSNOP looks at the whole word, the decoder of SLL not at rs. The word 0x00200040 has
rs = 1 and is read as the shift with rt = rd = 0 and sa = 1, which is ill-formed. -/
theorem not_decodedInstructionsAreWellFormed : ¬ Obligations.DecodedInstructionsAreWellFormed := by
  intro h
  have hread : decode 0x00200040 = .ok (.sll 0 0 1) := rfl
  exact absurd (h _ _ hread) (by decide)

/-- Settles O2: each of the words is the one that the encoder writes for its instruction. -/
theorem specWordsDecode : Obligations.SpecWordsDecode :=
  ⟨decode_encode (.addiu 0 2 5) rfl, decode_encode (.lw 4 3 8) rfl, decode_encode (.sw 29 3 0xFFFC) rfl,
    decode_encode (.beq 1 2 3) rfl, decode_encode (.j 0x0100000) rfl, decode_encode (.ror 3 2 4) rfl,
    decode_encode (.daddu 1 2 3) rfl, decode_encode (.madd 4 5) rfl, decode_encode (.mfc0 2 12) rfl,
    decode_encode (.fpAddD 6 4 2) rfl, decode_encode (.fpMaddS 2 6 4 0) rfl, decode_encode (.movf 3 1 2) rfl⟩

end Sys2Proof
end

section
/-! O48: coprocessor unusable. An instruction whose word has an opcode of a coprocessor is guarded by the gate of that
coprocessor, and nothing stands before the gate. -/

open Sys2Proof

namespace Sys2Proof.Machine

-- One declaration after the other: the threads of a parallel elaboration do not fit in the memory that the check has.
set_option Elab.async false

variable {s : State}

/-- The opcodes of coprocessor 0 (45_cp0_system.md rule R700): `needCp0` comes first. -/
theorem raises_of_cp0_opcode (hs : s.status.cp0Usable = false) (i : Instr)
    (hop : opOf (encode i) = 0b010000#6 ∨ opOf (encode i) = 0b101111#6) : Raises i s (.coprocessorUnusable 0) := by
  cases i with dsimp only [encode] at hop
  | cache | mfc0 | mtc0 | dmfc0 | dmtc0 | mfpc | mfps | mtpc | mtps | tlbr | tlbwi | tlbwr | tlbp | eret | wait | bc0f
  | bc0t | bc0fl | bc0tl => exact needCp0_not hs _
  | _ => simp [opOf_packI, opOf_packJ, opOf_packR, opOf_packTrap, opOf_packCode] at hop

/-- The opcodes of coprocessor 1 and the function MOVCI (10_state.md rule R50): `needFpu` comes first. -/
theorem raises_of_cp1_opcode (hs : s.status.cu1 = false) (i : Instr)
    (hop : opOf (encode i) = 0b010001#6 ∨ opOf (encode i) = 0b010011#6 ∨ opOf (encode i) = 0b110001#6 ∨
      opOf (encode i) = 0b110101#6 ∨ opOf (encode i) = 0b111001#6 ∨ opOf (encode i) = 0b111101#6 ∨
      opOf (encode i) = 0b000000#6 ∧ fnOf (encode i) = 0b000001#6) : Raises i s (.coprocessorUnusable 1) := by
  cases i with dsimp only [encode] at hop
  -- loads, stores, moves and branches
  | lwc1 | ldc1 | swc1 | sdc1 | lwxc1 | ldxc1 | luxc1 | swxc1 | sdxc1 | suxc1 | prefx | mfc1 | mtc1 | dmfc1 | dmtc1
  | cfc1 | ctc1 | bc1f | bc1t | bc1fl | bc1tl | movf | movt | fpMovS | fpMovD | fpMovfS | fpMovfD | fpMovtS | fpMovtD
  | fpMovnS | fpMovnD | fpMovzS | fpMovzD
  -- arithmetic
  | fpAddS | fpAddD | fpSubS | fpSubD | fpMulS | fpMulD | fpDivS | fpDivD | fpSqrtS | fpSqrtD | fpAbsS | fpAbsD | fpNegS
  | fpNegD | fpRecipS | fpRecipD | fpRsqrtS | fpRsqrtD | fpMaddS | fpMaddD | fpMsubS | fpMsubD | fpNmaddS | fpNmaddD
  | fpNmsubS | fpNmsubD
  -- conversions
  | fpCvtSD | fpCvtSW | fpCvtSL | fpCvtDS | fpCvtDW | fpCvtDL | fpCvtWS | fpCvtWD | fpCvtLS | fpCvtLD | fpRoundLS
  | fpRoundLD | fpTruncLS | fpTruncLD | fpCeilLS | fpCeilLD | fpFloorLS | fpFloorLD | fpRoundWS | fpRoundWD | fpTruncWS
  | fpTruncWD | fpCeilWS | fpCeilWD | fpFloorWS | fpFloorWD
  -- comparisons
  | fpCFS | fpCFD | fpCUnS | fpCUnD | fpCEqS | fpCEqD | fpCUeqS | fpCUeqD | fpCOltS | fpCOltD | fpCUltS | fpCUltD
  | fpCOleS | fpCOleD | fpCUleS | fpCUleD | fpCSfS | fpCSfD | fpCNgleS | fpCNgleD | fpCSeqS | fpCSeqD | fpCNglS
  | fpCNglD | fpCLtS | fpCLtD | fpCNgeS | fpCNgeD | fpCLeS | fpCLeD | fpCNgtS | fpCNgtD => exact needFpu_not hs _
  | _ =>
    simp [opOf_packI, opOf_packJ, opOf_packR, opOf_packTrap, opOf_packCode, fnOf_packR, fnOf_packTrap,
      fnOf_packCode] at hop

/-- Settles O48. -/
theorem coprocessorUnusable : Obligations.CoprocessorUnusable := fun i _ =>
  ⟨fun hop hs => raises_of_cp0_opcode hs i hop, fun hop hs => raises_of_cp1_opcode hs i hop⟩

end Sys2Proof.Machine
end

section
/-! O26, O28 to O31 and O33: the loads and stores of the CPU. The laws of the shared ends say what a load or store does
where its access raises nothing; each instruction is its gate and one of these ends. -/

open Sys2Proof

namespace Sys2Proof.Machine

variable {s : State}

/-! ## Aligned accesses (40_load_store.md sections 2 and 4) -/

/-- Settles O26: each load is `loadReg` of its item, LWU and LD behind the gate of the 64-bit operations. -/
theorem alignedLoads : Obligations.AlignedLoads := fun s base rt offset _ _ =>
  ⟨computes_of_loadReg (exec_lb s base rt offset), computes_of_loadReg (exec_lbu s base rt offset),
    computes_of_loadReg (exec_lh s base rt offset), computes_of_loadReg (exec_lhu s base rt offset),
    computes_of_loadReg (exec_lw s base rt offset),
    fun h64 => computes_of_loadReg ((exec_lwu s base rt offset).trans (need64_of h64 _)),
    fun h64 => computes_of_loadReg ((exec_ld s base rt offset).trans (need64_of h64 _))⟩

/-- Settles O30: each store is `storeBytes` of rt, SD behind the gate of the 64-bit operations. -/
theorem alignedStores : Obligations.AlignedStores := fun s base rt offset _ _ hc =>
  ⟨stores_of_storeBytes hc (exec_sb s base rt offset), stores_of_storeBytes hc (exec_sh s base rt offset),
    stores_of_storeBytes hc (exec_sw s base rt offset),
    fun h64 => stores_of_storeBytes hc ((exec_sd s base rt offset).trans (need64_of h64 _))⟩

/-! ## Left and right accesses (sections 3 and 5) -/

theorem dwordBase_eq (pa : PAddr) : dwordBase pa = pa &&& ~~~7#36 := by
  apply BitVec.eq_of_getLsbD_eq
  intro i hi
  have h7 : (7#36).getLsbD i = decide (i < 3) := by
    rw [BitVec.getLsbD_ofNat, decide_eq_true hi, Bool.true_and]
    exact Nat.testBit_two_pow_sub_one 3 i
  rw [dwordBase, BitVec.getLsbD_append, BitVec.getLsbD_and, BitVec.getLsbD_not, h7, decide_eq_true hi]
  split
  · next hlt => simp [hlt]
  · next hge => simp [hge, show i - 3 < 33 by omega, show 3 + (i - 3) = i by omega]

/-- Settles O31: each store is `storePart` of the bytes that its rule names. -/
theorem leftRightStores : Obligations.LeftRightStores := fun s base rt offset _ _ hc h =>
  ⟨stores_of_storePart hc (exec_swl s base rt offset) h, stores_of_storePart hc (exec_swr s base rt offset) h,
    fun h64 => ⟨stores_of_storePart hc ((exec_sdl s base rt offset).trans (need64_of h64 _)) h,
      stores_of_storePart hc ((exec_sdr s base rt offset).trans (need64_of h64 _)) h⟩⟩

theorem getLsbD_wordAt (s : State) (pa : PAddr) (va : Dword) {i : Nat} (hi : i < 32) :
    (s.wordAt pa va).getLsbD i = (s.memRead (dwordBase pa) 8).getLsbD (32 * s.wordInDword va + i) := by
  rw [State.wordAt, BitVec.getLsbD_extractLsb', decide_eq_true hi, Bool.true_and]

theorem getLsbD_low (v : Dword) {i : Nat} (hi : i < 32) : (low v).getLsbD i = v.getLsbD i := by
  rw [low, BitVec.getLsbD_setWidth, decide_eq_true hi, Bool.true_and]

section Merge
variable (s : State) (pa : PAddr) (va v : Dword) (k i : Nat) (hi : i < 32)
include hi

/-- The bits that LWL makes of the doubleword in memory and the old register. -/
theorem getLsbD_mergeLeft_wordAt : (mergeLeft (s.wordAt pa va) (low v) k).getLsbD i =
    if i < k then v.getLsbD i else (s.memRead (dwordBase pa) 8).getLsbD (32 * s.wordInDword va + (i - k)) := by
  rw [getLsbD_mergeLeft _ _ _ _ hi, getLsbD_low v hi, getLsbD_wordAt s pa va (by omega)]

/-- The bits that LWR makes of the doubleword in memory and the old register. -/
theorem getLsbD_mergeRight_wordAt : (mergeRight (s.wordAt pa va) (low v) k).getLsbD i =
    if i < 32 - k then (s.memRead (dwordBase pa) 8).getLsbD (32 * s.wordInDword va + k + i) else v.getLsbD i := by
  rw [getLsbD_mergeRight _ _ _ _ hi, getLsbD_low v hi]
  split
  · rw [getLsbD_wordAt s pa va (by omega), Nat.add_assoc]
  · rfl

end Merge

/-- Settles O28: each load is `loadPart` of a merge, whose bits the laws of merging give. -/
theorem leftRightLoads : Obligations.LeftRightLoads := by
  intro s base rt offset pa attr
  dsimp only
  intro h
  rw [← dwordBase_eq]
  exact ⟨⟨_, computes_of_loadPart (exec_lwl s base rt offset) h, getLsbD_mergeLeft_wordAt s pa _ _ _⟩,
    ⟨_, computes_of_loadPart (exec_lwr s base rt offset) h, getLsbD_mergeRight_wordAt s pa _ _ _⟩,
    fun h64 => ⟨⟨_, computes_of_loadPart ((exec_ldl s base rt offset).trans (need64_of h64 _)) h,
        getLsbD_mergeLeft _ _ _⟩,
      ⟨_, computes_of_loadPart ((exec_ldr s base rt offset).trans (need64_of h64 _)) h, getLsbD_mergeRight _ _ _⟩⟩⟩

/-! ## Load linked (section 6) -/

/-- What LL and LLD write beside rt: the LL bit, the address that SC compares, and LLAddr. -/
theorem completes_of_loadLinked {i : Instr} {va : Dword} {n : Nat} {rt : RegNum} {f : Dword → Dword} {pa : PAddr}
    {attr : CacheAttr} (hi : exec i s = loadLinked s va n rt f) (h : Accessible s va n false pa attr)
    (hc : isCacheable attr = true) :
    ∃ t, exec i s = .next t ∧ Advanced s t ∧ t.reg rt = (if rt = 0 then 0 else f (s.memRead pa n)) ∧
      SameRegsBut s t rt ∧ t.llBit = true ∧ t.linkAddr = pa ∧
      t.cp0 = { s.cp0 with llAddr := pa.extractLsb' 4 32 } ∧ t.tlb = s.tlb ∧ SameHiLo s t ∧ SameFpRegs s t ∧
      t.fcr31 = s.fcr31 ∧ SameMemory s t ∧ SameWorld s t := by
  refine ⟨_, (hi.trans (withData_ok h _)).trans (if_pos hc), advanced_advance (by simp), by simp,
    fun r hr => by simp [State.reg_setReg_ne _ _ _ _ hr], rfl, rfl, by simp, by simp, ?_, fun i => by simp, by simp,
    fun a => by simp, ?_⟩ <;> constructor <;> simp

/-- Undefined at an uncached address (log 24). -/
theorem refuses_of_loadLinked {i : Instr} {va : Dword} {n : Nat} {rt : RegNum} {f : Dword → Dword} {pa : PAddr}
    {attr : CacheAttr} (hi : exec i s = loadLinked s va n rt f) (h : Accessible s va n false pa attr)
    (hc : isCacheable attr = false) : exec i s = .refused .llUncached :=
  (hi.trans (withData_ok h _)).trans (if_neg (by simp [hc]))

/-- Settles O29: LL is `loadLinked` of a word, LLD of a doubleword behind the gate of the 64-bit operations. -/
theorem loadLinked_spec : Obligations.LoadLinked := fun s base rt offset _ _ =>
  have hll := exec_ll s base rt offset
  have hlld h64 := (exec_lld s base rt offset).trans (need64_of h64 _)
  ⟨completes_of_loadLinked hll, refuses_of_loadLinked hll,
    fun h64 => completes_of_loadLinked (hlld h64), fun h64 => refuses_of_loadLinked (hlld h64)⟩

/-! ## Exceptions of the access (60_exceptions.md rules R1010, R1019, R1030) -/

theorem isCacheable_iff (attr : CacheAttr) : isCacheable attr = true ↔ attr ∈ ([1, 3, 4, 5] : List CacheAttr) := by
  simp [isCacheable, or_assoc]

/-- The doubleword that the watch registers name, bit by bit. -/
theorem extractLsb'_eq_watched_iff (pa : PAddr) (hi : BitVec 4) (lo : BitVec 29) :
    pa.extractLsb' 3 33 = hi ++ lo ↔ ∀ j, 3 ≤ j → j < 36 →
      pa.getLsbD j = if j < 32 then lo.getLsbD (j - 3) else hi.getLsbD (j - 32) := by
  have hbit (i : Nat) (h : i < 33) : (pa.extractLsb' 3 33).getLsbD i = pa.getLsbD (i + 3) := by
    rw [BitVec.getLsbD_extractLsb', decide_eq_true h, Bool.true_and, Nat.add_comm]
  constructor
  · intro h j hlo hhi
    obtain ⟨i, rfl⟩ := Nat.exists_eq_add_of_le' hlo
    rw [← hbit i (by omega), h, BitVec.getLsbD_append]
    grind
  · intro h
    apply BitVec.eq_of_getLsbD_eq
    intro i hi
    rw [hbit i hi, h (i + 3) (by omega) (by omega), BitVec.getLsbD_append]
    grind

theorem State.watchHit_iff (s : State) (pa : PAddr) (store : Bool) : s.watchHit pa store = true ↔
    (∀ j, 3 ≤ j → j < 36 → pa.getLsbD j =
      if j < 32 then s.cp0.watchLo.paddr0.getLsbD (j - 3) else s.cp0.watchHi.getLsbD (j - 32)) ∧
    (if store then s.cp0.watchLo.w = true else s.cp0.watchLo.r = true) := by
  rw [State.watchHit, Bool.and_eq_true, decide_eq_true_iff, extractLsb'_eq_watched_iff]
  cases store <;> rfl

/-- A bus error comes before a watch. -/
theorem State.accessFault_eq_some_iff (s : State) (pa : PAddr) (attr : CacheAttr) (store : Bool) (e : Exc) :
    s.accessFault pa attr store = some e ↔
      (s.inputs.busErrData && (!store || isCacheable attr)) = true ∧ e = .busErrorData ∨
      ¬ (s.inputs.busErrData && (!store || isCacheable attr)) = true ∧ s.watchHit pa store = true ∧
        s.status.exl = false ∧ e = .watch := by
  unfold State.accessFault
  split_ifs <;> grind

/-! ## Store conditional (section 6) -/

section StoreConditional
variable {va : Dword} {n : Nat} {rt : RegNum} {pa : PAddr} {attr : CacheAttr}
  (ha : s.dataAddr va n true = .ok (pa, attr))
include ha

theorem storeConditional_unlinked (hll : s.llBit = false) : storeConditional s va n rt = writeReg s rt 0 := by
  simp [storeConditional, ha, hll, writeReg]

theorem storeConditional_elsewhere (hll : s.llBit = true) (hpa : s.linkAddr ≠ pa) :
    storeConditional s va n rt = .refused .scAddressMismatch := by
  simp [storeConditional, ha, hll, hpa]

variable (hll : s.llBit = true) (hpa : s.linkAddr = pa)
include hll hpa

theorem storeConditional_fails (h : s.scSucceeds = false) :
    storeConditional s va n rt = .next (s.scDrew.setReg rt 0).advance := by
  simp [storeConditional, ha, hll, hpa, h]

theorem storeConditional_faults (h : s.scSucceeds = true) {e : Exc} (hf : s.accessFault pa attr true = some e) :
    storeConditional s va n rt = raise e s.scDrew := by
  simp [storeConditional, ha, hll, hpa, h, hf]

theorem storeConditional_stores (h : s.scSucceeds = true) (hf : s.accessFault pa attr true = none) :
    storeConditional s va n rt = .next (((s.scDrew.memWrite pa n (s.reg rt)).setReg rt 1).noteAccess.advance) := by
  simp [storeConditional, ha, hll, hpa, h, hf]

end StoreConditional

theorem State.scSucceeds_iff (s : State) :
    s.scSucceeds = true ↔ s.llDisturbed = false ∨ (s.free 0).getLsbD 0 = true := by
  simp [State.scSucceeds, -BitVec.getLsbD_eq_getElem]

theorem State.scDrew_of_undisturbed (h : s.llDisturbed = false) : s.scDrew = s := by rw [State.scDrew, h]; rfl

theorem State.scDrew_of_disturbed (h : s.llDisturbed = true) : s.scDrew = s.drew 1 := by rw [State.scDrew, h]; rfl

theorem State.setReg_drew (s : State) (r : RegNum) (v : Dword) (n : Nat) :
    (s.drew n).setReg r v = (s.setReg r v).drew n := by
  unfold State.setReg
  split <;> rfl

/-- What a store conditional that stores changes, in a canonical memory. -/
theorem storeEffect_scDrew (hc : s.Canonical) (pa : PAddr) (n : Nat) (v : Dword) (rt : RegNum) :
    StoreEffect s ((s.scDrew.memWrite pa n v).setReg rt 1).noteAccess.advance pa.toNat n v rt 1 where
  bytes i hi := by
    simp only [State.byteAt_advance, State.byteAt_noteAccess, State.byteAt_setReg]
    exact State.byteAt_memWrite_inside (s := s.scDrew) hc pa n v i hi
  memory x hx := by
    simp only [State.byteAt_advance, State.byteAt_noteAccess, State.byteAt_setReg]
    exact State.byteAt_memWrite_outside s.scDrew pa n v x hx
  value := by simp
  regs r hr := by simp [State.reg_setReg_ne _ _ _ _ hr, State.scDrew]
  hiLo := by constructor <;> simp [State.scDrew]
  fpRegs i := by simp [State.scDrew]
  fcr31 := by simp [State.scDrew]
  system := by apply SameSystem.of <;> simp [State.scDrew]

section Conditional
variable {i : Instr} {va : Dword} {n : Nat} {rt : RegNum} {pa : PAddr} {attr : CacheAttr}
  (hi : exec i s = storeConditional s va n rt)
include hi

/-- The four outcomes of a store conditional whose address raises nothing. -/
theorem outcomes_of_storeConditional (hc : s.Canonical) (ha : s.dataAddr va n true = .ok (pa, attr)) :
    (s.llBit = false → Computes i s rt 0) ∧
    (s.llBit = true → s.linkAddr ≠ pa → exec i s = .refused .scAddressMismatch) ∧
    (s.llBit = true → s.linkAddr = pa → s.llDisturbed = true → (s.free 0).getLsbD 0 = false → Computes i s rt 0) ∧
    (s.llBit = true → s.linkAddr = pa → (s.llDisturbed = false ∨ (s.free 0).getLsbD 0 = true) →
      s.accessFault pa attr true = none →
      ∃ t, exec i s = .next t ∧ Advanced s t ∧ StoreEffect s t pa.toNat n (s.reg rt) rt 1 ∧ t.llDisturbed = true) := by
  refine ⟨fun hll => computes_of_writeReg (hi.trans (storeConditional_unlinked ha hll)),
    fun hll hpa => hi.trans (storeConditional_elsewhere ha hll hpa), fun hll hpa hd hfree => ?_,
    fun hll hpa hs hf => ⟨_, hi.trans (storeConditional_stores ha hll hpa (s.scSucceeds_iff.2 hs) hf),
      advanced_advance (by simp [State.scDrew]), storeEffect_scDrew hc pa n _ rt, by simp⟩⟩
  have hfail : s.scSucceeds = false := by simp [State.scSucceeds, hd, hfree, -BitVec.getLsbD_eq_getElem]
  have hexec := hi.trans (storeConditional_fails ha hll hpa hfail)
  rw [State.scDrew, State.setReg_drew] at hexec
  exact computes_of_drew hexec

/-- The exception of the access of a store conditional that would store. -/
theorem raises_of_storeConditional {e : Exc} (ha : s.dataAddr va n true = .ok (pa, attr)) (hll : s.llBit = true)
    (hpa : s.linkAddr = pa) (hf : s.accessFault pa attr true = some e) :
    (s.llDisturbed = false → Raises i s e) ∧
    (s.llDisturbed = true → (s.free 0).getLsbD 0 = true → exec i s = .next (takeException e (s.drew 1))) := by
  have hraise h : exec i s = .next (takeException e s.scDrew) :=
    hi.trans (storeConditional_faults ha hll hpa (s.scSucceeds_iff.2 h) hf)
  constructor
  · intro hd
    have h := hraise (.inl hd)
    rwa [State.scDrew_of_undisturbed hd] at h
  · intro hd hfree
    have h := hraise (.inr hfree)
    rwa [State.scDrew_of_disturbed hd] at h

end Conditional

/-- The same behind the gate of the 64-bit operations. -/
theorem takes_of_need64 {i : Instr} {va : Dword} {n : Nat} {store : Bool} {k : PAddr → CacheAttr → Result}
    (hi : exec i s = need64 s (withData s va n store k)) (h64 : s.status.ops64 = true) :
    TakesAccessException i s va n store := takes_of_withData (hi.trans (need64_of h64 _))

/-- Settles O33: every load and store but SC and SCD is one `withData`, the 64-bit ones behind their gate. -/
theorem dataAccessExceptions : Obligations.DataAccessExceptions := by
  intro s base rt offset
  have hsc := exec_sc s base rt offset
  have hscd h64 := (exec_scd s base rt offset).trans (need64_of h64 _)
  refine ⟨takes_of_withData (exec_lb s base rt offset), takes_of_withData (exec_lbu s base rt offset),
    takes_of_withData (exec_lh s base rt offset), takes_of_withData (exec_lhu s base rt offset),
    takes_of_withData (exec_lw s base rt offset),
    takes_of_need64 (exec_lwu s base rt offset),
    takes_of_need64 (exec_ld s base rt offset),
    takes_of_withData (exec_lwl s base rt offset), takes_of_withData (exec_lwr s base rt offset),
    takes_of_need64 (exec_ldl s base rt offset),
    takes_of_need64 (exec_ldr s base rt offset),
    takes_of_withData (exec_ll s base rt offset),
    takes_of_need64 (exec_lld s base rt offset),
    takes_of_withData (exec_sb s base rt offset), takes_of_withData (exec_sh s base rt offset),
    takes_of_withData (exec_sw s base rt offset),
    takes_of_need64 (exec_sd s base rt offset),
    takes_of_withData (exec_swl s base rt offset), takes_of_withData (exec_swr s base rt offset),
    takes_of_need64 (exec_sdl s base rt offset),
    takes_of_need64 (exec_sdr s base rt offset),
    fun e he => hsc.trans (storeConditional_error rt he),
    fun h64 e he => (hscd h64).trans (storeConditional_error rt he),
    fun pa attr e ha hll hpa hf => raises_of_storeConditional hsc ha hll hpa hf,
    fun h64 pa attr e ha hll hpa hf => raises_of_storeConditional (hscd h64) ha hll hpa hf,
    fun pa attr store e => ?_⟩
  rw [State.accessFault_eq_some_iff, State.watchHit_iff, Bool.and_eq_true, Bool.or_eq_true, Bool.not_eq_true',
    isCacheable_iff]

end Sys2Proof.Machine
end

section
/-! O32: SC and SCD, and the mark that a load or store leaves for them. `linkUse` says which instructions mark the
link as disturbed and which clear the mark; one predicate, `Marks`, says what an answer has done with it. -/

open Sys2Proof

namespace Sys2Proof.Machine

variable {s t u : State}

/-! ## What an instruction does with the mark (20_memory.md rule R130, log 26) -/

/-- The roles of the instructions in an LL/SC sequence. -/
inductive LinkUse where
  | access
  | link
  | conditional
  | other

/-- The role of an instruction. -/
def linkUse : Instr → LinkUse
  | .lb .. | .lbu .. | .lh .. | .lhu .. | .lw .. | .lwu .. | .ld .. | .lwl .. | .lwr .. | .ldl .. | .ldr ..
  | .sb .. | .sh .. | .sw .. | .sd .. | .swl .. | .swr .. | .sdl .. | .sdr .. | .lwc1 .. | .ldc1 .. | .swc1 ..
  | .sdc1 .. | .lwxc1 .. | .ldxc1 .. | .luxc1 .. | .swxc1 .. | .sdxc1 .. | .suxc1 .. => .access
  | .ll .. | .lld .. => .link
  | .sc .. | .scd .. => .conditional
  | _ => .other

/-- What the mark may be after an instruction of the role has completed. -/
def LinkUse.Allows : LinkUse → (before after : Bool) → Prop
  | .access, _, after => after = true
  | .link, _, after => after = false
  | .conditional, _, _ => True
  | .other, before, after => after = before

/-- The answer `r` of an instruction in `s`, if it is a state at all, has the mark of its role, or has taken an
exception and kept the mark. -/
structure Marks (use : LinkUse) (s : State) (r : Result) : Prop where
  of_next : s.raised = false → ∀ t, r = .next t →
    (t.raised = true → t.llDisturbed = s.llDisturbed) ∧ (t.raised = false → use.Allows s.llDisturbed t.llDisturbed)

variable {use : LinkUse}

theorem llDisturbed_takeException (e : Exc) (s : State) : (takeException e s).llDisturbed = s.llDisturbed := by
  cases e <;> rfl

theorem Marks.raise (e : Exc) (hu : u.llDisturbed = s.llDisturbed) : Marks use s (raise e u) where
  of_next _ _ h := by
    cases h
    exact ⟨fun _ => (llDisturbed_takeException e u).trans hu, fun hr => by simp at hr⟩

/-- An instruction that completes does not raise. -/
theorem Marks.next (hr : t.raised = s.raised) (h : use.Allows s.llDisturbed t.llDisturbed) :
    Marks use s (.next t) where
  of_next hs _ e := by
    cases e
    rw [hr, hs]
    exact ⟨fun hraised => by contradiction, fun _ => h⟩

theorem Marks.keep (e : t.llDisturbed = s.llDisturbed) : Marks .other s (.next t) where
  of_next _ _ h := by
    cases h
    exact ⟨fun _ => e, fun _ => e⟩

theorem Marks.refused (s : State) (r : Refusal) : Marks use s (.refused r) where
  of_next _ _ h := by simp at h

theorem Marks.fault (s : State) (f : Fault) : Marks use s (.fault f) where
  of_next _ _ h := by simp at h

theorem Marks.ite {c : Prop} [Decidable c] {a b : Result} (ha : Marks use s a) (hb : Marks use s b) :
    Marks use s (if c then a else b) := by
  split
  · exact ha
  · exact hb

/-! ## Gates -/

section Gates
variable {k : Result}

theorem Marks.needCp0 (h : Marks use s k) : Marks use s (needCp0 s k) := .ite h (.raise _ rfl)
theorem Marks.needFpu (h : Marks use s k) : Marks use s (needFpu s k) := .ite h (.raise _ rfl)
theorem Marks.need64 (h : Marks use s k) : Marks use s (need64 s k) := .ite h (.raise _ rfl)
theorem Marks.needMips4 (h : Marks use s k) : Marks use s (needMips4 s k) := .ite h (.raise _ rfl)
theorem Marks.raiseUnimplemented (s : State) : Marks use s (raiseUnimplemented s) := .raise _ rfl
theorem Marks.needMips4Fp (h : Marks use s k) : Marks use s (needMips4Fp s k) := .ite h (.raiseUnimplemented s)
theorem Marks.needCc {cc : BitVec 3} (h : Marks use s k) : Marks use s (needCc s cc k) := .ite h (.needMips4Fp h)
theorem Marks.needNoSlot (h : Marks use s k) : Marks use s (needNoSlot u k) := .ite (.refused ..) h
theorem Marks.needEvenFp {l : List FprNum} (h : Marks use s k) : Marks use s (needEvenFp s l k) := .ite (.refused ..) h

theorem Marks.withData {va : Dword} {n : Nat} {store : Bool} {k : PAddr → CacheAttr → Result}
    (h : ∀ pa attr, Marks use s (k pa attr)) : Marks use s (withData s va n store k) := by
  obtain ⟨e, he⟩ | ⟨pa, attr, -, hk⟩ := withData_cases s va n store k
  · rw [he]; exact .raise e rfl
  · rw [hk]; exact h pa attr

theorem Marks.indexedGate {base index : RegNum} {k : Dword → Result} (h : ∀ va, Marks use s (k va)) :
    Marks use s (indexedGate s base index k) := .needFpu (.needMips4 (.ite (h _) (.refused ..)))

end Gates

/-! ## Loads and stores -/

/-- The end of every load and store. -/
theorem Marks.access (h : SameSystem s t) : Marks .access s (.next t.noteAccess.advance) := .next h.world.raised rfl

theorem Marks.loadReg (s : State) (va : Dword) (n : Nat) (rt : RegNum) (f : Dword → Dword) :
    Marks .access s (loadReg s va n rt f) := .withData fun _ _ => .access (sameSystem_setReg s rt _)

theorem Marks.loadPart (s : State) (va : Dword) (rt : RegNum) (f : PAddr → Dword) :
    Marks .access s (loadPart s va rt f) := .withData fun _ _ => .access (sameSystem_setReg s rt _)

theorem Marks.storeBytes (s : State) (va : Dword) (n : Nat) (v : Dword) : Marks .access s (storeBytes s va n v) :=
  .withData fun pa _ => .access (sameSystem_memWrite s pa n v)

theorem Marks.storePart (s : State) (va : Dword) (first : PAddr → Nat → PAddr) (n : Nat) (v : Dword) :
    Marks .access s (storePart s va first n v) :=
  .withData fun pa _ => .access (sameSystem_memWrite s (first pa n) n v)

theorem Marks.loadFgrWord (s : State) (va : Dword) (i : FprNum) : Marks .access s (loadFgrWord s va i) :=
  .withData fun _ _ => .access (sameSystem_writeFgrWord s i _)

theorem Marks.loadFgrDouble (s : State) (va : Dword) (i : FprNum) : Marks .access s (loadFgrDouble s va i) :=
  .withData fun _ _ => .ite (.refused ..) (.access (sameSystem_writeFgrDouble s i _))

theorem Marks.storeFgrDouble (s : State) (va : Dword) (i : FprNum) : Marks .access s (storeFgrDouble s va i) :=
  .withData fun pa _ =>
    .ite (.access ((sameSystem_memWrite s pa 8 _).trans (sameSystem_drew _ 1)))
      (.access (sameSystem_memWrite s pa 8 _))

theorem Marks.loadLinked (s : State) (va : Dword) (n : Nat) (rt : RegNum) (f : Dword → Dword) :
    Marks .link s (loadLinked s va n rt f) := .withData fun _ _ => .ite (.next (by simp) rfl) (.refused ..)

theorem Marks.storeConditional (s : State) (va : Dword) (n : Nat) (rt : RegNum) :
    Marks .conditional s (storeConditional s va n rt) := by
  unfold Machine.storeConditional
  split
  · exact .raise _ rfl
  · refine .ite (.next (by simp) trivial) (.ite (.refused ..) (.ite (.next (by simp [State.scDrew]) trivial) ?_))
    split
    · exact .raise _ rfl
    · exact .next (by simp [State.scDrew]) trivial

/-! ## Ends of the other instructions -/

theorem Marks.advance (s : State) : Marks .other s (.next s.advance) := .keep rfl

theorem Marks.writeReg (s : State) (rd : RegNum) (v : Dword) : Marks .other s (writeReg s rd v) := .keep (by simp)

/-- The end of an instruction whose result is a free value. -/
theorem Marks.setReg_drew (s : State) (rd : RegNum) (v : Dword) (n : Nat) :
    Marks .other s (.next ((s.setReg rd v).drew n).advance) := .keep (by simp)

theorem Marks.writeWord (s : State) (valid : Bool) (rd : RegNum) (w : Word) :
    Marks .other s (writeWord s valid rd w) := .ite (.writeReg s rd _) (.setReg_drew s rd _ 1)

theorem Marks.trapIf (s : State) (c : Bool) : Marks .other s (trapIf s c) := .ite (.raise _ rfl) (.advance s)

theorem Marks.writeHiLoWords (s : State) (defined : Bool) (hi lo : Word) :
    Marks .other s (writeHiLoWords s defined hi lo) := .ite (.keep rfl) (.keep rfl)

theorem Marks.writeHiLoDiv (s : State) (divisor hi lo : Dword) : Marks .other s (writeHiLoDiv s divisor hi lo) :=
  .ite (.keep rfl) (.keep rfl)

theorem Marks.branchOn (e : u.llDisturbed = s.llDisturbed) (offset : BitVec 16) (taken likely : Bool) :
    Marks .other s (branchOn u offset taken likely) := by
  refine .needNoSlot (.keep (Eq.trans ?_ e))
  split
  · rfl
  · split <;> rfl

theorem Marks.branchLinkOn (s : State) (offset : BitVec 16) (taken likely : Bool) :
    Marks .other s (branchLinkOn s offset taken likely) := .branchOn (by simp) offset taken likely

theorem Marks.jumpOn (e : u.llDisturbed = s.llDisturbed) (target : Dword) (byRegister : Bool) :
    Marks .other s (jumpOn u target byRegister) := .needNoSlot (.keep e)

/-! ## Ends of the instructions of coprocessor 0 -/

theorem llDisturbed_writeCp0 (s : State) (rd : BitVec 5) (v : Dword) :
    (s.writeCp0 rd v).llDisturbed = s.llDisturbed := by
  unfold State.writeCp0
  dsimp only
  split <;> rfl

theorem llDisturbed_beforeCp0Read (s : State) (rd : BitVec 5) : (s.beforeCp0Read rd).llDisturbed = s.llDisturbed := by
  unfold State.beforeCp0Read
  split <;> rfl

theorem llDisturbed_exceptionReturn (s : State) : (exceptionReturn s).llDisturbed = s.llDisturbed := by
  unfold exceptionReturn
  dsimp only
  split <;> rfl

theorem llDisturbed_blurBlock (s : State) (pa : PAddr) : (s.blurBlock pa).llDisturbed = s.llDisturbed := by
  simp [State.blurBlock]

theorem llDisturbed_cacheEffect (s : State) (op : BitVec 5) (pa : PAddr) :
    (s.cacheEffect op pa).llDisturbed = s.llDisturbed := by
  unfold State.cacheEffect
  split
  · rfl
  · split
    · exact llDisturbed_blurBlock s pa
    · rfl

theorem Marks.writeCp0 (s : State) (rd : BitVec 5) (v : Dword) : Marks .other s (.next (s.writeCp0 rd v).advance) :=
  .keep (llDisturbed_writeCp0 s rd v)

theorem Marks.moveFromCp0 (s : State) (rt : RegNum) (rd : BitVec 5) (f : Dword → Dword) :
    Marks .other s (.next (s.moveFromCp0 rt rd f).advance) :=
  .keep (by simp [State.moveFromCp0, llDisturbed_beforeCp0Read])

theorem Marks.readPerf (s : State) (rt : RegNum) (w : Option Word) : Marks .other s (readPerf s rt w) := by
  cases w with
  | none => exact .setReg_drew ..
  | some w => exact .writeReg ..

/-- MTPC and MTPS. -/
theorem Marks.writePerf (s : State) (reg : BitVec 5) (c c' : Cp0) :
    Marks .other s (if reg = 0 then .next (s.setCp0 c).advance
      else if reg = 1 then .next (s.setCp0 c').advance else .next s.advance) :=
  .ite (.keep rfl) (.ite (.keep rfl) (.advance s))

theorem Marks.writeEntry (e : u.llDisturbed = s.llDisturbed) (index : Nat) : Marks .other s (writeEntry u index) :=
  .ite (.keep e) (.refused ..)

theorem Marks.tlbp (s : State) : Marks .other s (execTlbp s) := by
  refine .needCp0 ?_
  split
  · exact .keep rfl
  · exact .keep rfl
  · exact .raise _ rfl

theorem Marks.tlbr (s : State) : Marks .other s (execTlbr s) := by
  refine .needCp0 ?_
  split
  · exact .keep rfl
  · exact .refused ..

theorem Marks.cache (s : State) (base : RegNum) (op : BitVec 5) (offset : BitVec 16) :
    Marks .other s (execCache base op offset s) := by
  refine .needCp0 ?_
  split
  · exact .raise _ rfl
  · exact .ite (.refused ..) (.ite (.refused ..) (.ite (.raise _ rfl) (.keep (llDisturbed_cacheEffect ..))))

/-! ## Ends of the FPU instructions -/

theorem llDisturbed_writeFgrWord (s : State) (i : FprNum) (w : Word) :
    (s.writeFgrWord i w).llDisturbed = s.llDisturbed := by
  unfold State.writeFgrWord
  split
  · rfl
  · split <;> rfl

theorem llDisturbed_store (f : FpFormat) (fd : FprNum) (v : Dword) (s : State) :
    (f.store fd v s).llDisturbed = s.llDisturbed := by
  cases f <;> rfl

theorem Marks.fpFinish {store : State → State} (h : ∀ t, (store t).llDisturbed = t.llDisturbed) (c : BitVec 6) :
    Marks .other s (fpFinish s c store) := .ite (.raise _ rfl) (.keep (h _))

theorem Marks.finish (f : FpFormat) (s : State) (fd : FprNum) (r : FpResult) : Marks .other s (f.finish s fd r) :=
  .fpFinish (llDisturbed_store f fd r.value) r.cause

theorem Marks.fpMoveIf (f : FpFormat) (c : Bool) (s : State) (fs fd : FprNum) :
    Marks .other s (fpMoveIf f c s fs fd) := .needEvenFp (.keep (llDisturbed_store f fd _ s))

theorem Marks.fpToWord (f : FpFormat) (mode : Rounding) (s : State) (fs fd : FprNum) :
    Marks .other s (fpToWord f mode s fs fd) := .needEvenFp (.fpFinish (llDisturbed_store .single fd _) _)

theorem Marks.fpToLong (f : FpFormat) (mode : Rounding) (s : State) (fs fd : FprNum) :
    Marks .other s (fpToLong f mode s fs fd) := .need64 (.needEvenFp (.fpFinish (llDisturbed_store .double fd _) _))

theorem Marks.fpFromDword (f : FpFormat) (s : State) (fs fd : FprNum) : Marks .other s (fpFromDword f s fs fd) :=
  .ite (.needEvenFp (.finish ..)) (.raiseUnimplemented s)

theorem Marks.fpCompare (f : FpFormat) (cond : BitVec 4) (s : State) (ft fs : FprNum) (cc : BitVec 3) :
    Marks .other s (fpCompare f cond s ft fs cc) :=
  .needCc (.needEvenFp (.fpFinish (State.llDisturbed_setFcr31 · _) _))

theorem Marks.cfc1 (s : State) (rt : RegNum) (fs : FprNum) : Marks .other s (execCfc1 rt fs s) := by
  refine .needFpu ?_
  split
  · exact .writeReg ..
  · exact .setReg_drew ..

theorem Marks.ctc1 (s : State) (rt : RegNum) (fs : FprNum) : Marks .other s (execCtc1 rt fs s) := by
  refine .needFpu ?_
  split
  · exact .ite (.raise _ rfl) (.keep rfl)
  · exact .ite (.advance s) (.refused ..)

/-! ## Every instruction -/

/-- Each case reads the instruction's meaning from the outside in: its gates, then its end. -/
theorem exec_marks (s : State) (i : Instr) : Marks (linkUse i) s (exec i s) := by
  cases i with dsimp only [exec]
  -- loads and stores
  | lb | lbu | lh | lhu | lw => exact .loadReg ..
  | lwu | ld => exact .need64 (.loadReg ..)
  | lwl | lwr => exact .loadPart ..
  | ldl | ldr => exact .need64 (.loadPart ..)
  | sb | sh | sw => exact .storeBytes ..
  | sd => exact .need64 (.storeBytes ..)
  | swl | swr => exact .storePart ..
  | sdl | sdr => exact .need64 (.storePart ..)
  | lwc1 => exact .needFpu (.loadFgrWord ..)
  | ldc1 => exact .needFpu (.loadFgrDouble ..)
  | swc1 => exact .needFpu (.storeBytes ..)
  | sdc1 => exact .needFpu (.storeFgrDouble ..)
  | lwxc1 => exact .indexedGate fun _ => .loadFgrWord ..
  | ldxc1 | luxc1 => exact .indexedGate fun _ => .loadFgrDouble ..
  | swxc1 => exact .indexedGate fun _ => .storeBytes ..
  | sdxc1 | suxc1 => exact .indexedGate fun _ => .storeFgrDouble ..
  -- load linked and store conditional
  | ll => exact .loadLinked ..
  | lld => exact .need64 (.loadLinked ..)
  | sc => exact .storeConditional ..
  | scd => exact .need64 (.storeConditional ..)
  -- integer arithmetic, logic and shifts
  | addi | add | sub => exact .ite (.raise _ rfl) (.writeWord ..)
  | addiu | addu | subu | clo | clz | srl | sra | srlv | srav => exact .writeWord ..
  | slti | sltiu | andi | ori | xori | lui | slt | sltu | and | or | xor | nor | sll | sllv | ror | rorv =>
    exact .writeReg ..
  | daddi | dadd | dsub => exact .need64 (.ite (.raise _ rfl) (.writeReg ..))
  | daddiu | daddu | dsubu | dclo | dclz | dsll | dsrl | dsra | dsllv | dsrlv | dsrav | dsll32 | dsrl32 | dsra32
  | dror | dror32 | drorv => exact .need64 (.writeReg ..)
  | movn | movz => exact .needMips4 (.ite (.writeReg ..) (.advance s))
  -- multiplication and division
  | mult | multu | div | divu => exact .writeHiLoWords ..
  | dmult | dmultu => exact .need64 (.keep rfl)
  | ddiv | ddivu => exact .need64 (.writeHiLoDiv ..)
  | mthi | mtlo => exact .ite (.keep rfl) (.keep rfl)
  | mfhi | mflo | madd | maddu | msub | msubu | mul64 | macc | macchi | macchiu | maccu | msac | msachi | msachiu
  | msacu | mul | mulhi | mulhiu | muls | mulshi | mulshiu | mulsu | mulu => exact .keep (by simp [State.setAcc])
  -- jumps and branches
  | beq | bne | blez | bgtz | bltz | bgez | beql | bnel | blezl | bgtzl | bltzl | bgezl => exact .branchOn rfl ..
  | bltzal | bgezal | bltzall | bgezall => exact .branchLinkOn ..
  | j | jr => exact .jumpOn rfl ..
  | jal => exact .jumpOn (by simp) ..
  | jalr => exact .ite (.jumpOn (by simp) ..) (.jumpOn (by simp) ..)
  -- system calls, traps and the instructions that do nothing
  | syscall | breakpoint => exact .raise _ rfl
  | tge | tgeu | tlt | tltu | teq | tne | tgei | tgeiu | tlti | tltiu | teqi | tnei => exact .trapIf ..
  | ssnop | sync => exact .advance s
  | pref => exact .needMips4 (.advance s)
  -- coprocessor 0
  | cache => exact .cache ..
  | mfc0 => exact .needCp0 (.moveFromCp0 ..)
  | mtc0 => exact .needCp0 (.writeCp0 ..)
  | dmfc0 => exact .needCp0 (.need64 (.ite (.writeReg ..) (.setReg_drew ..)))
  | dmtc0 => exact .needCp0 (.need64 (.ite (.writeCp0 ..) (.refused ..)))
  | mfpc | mfps => exact .needCp0 (.readPerf ..)
  | mtpc | mtps => exact .needCp0 (.writePerf ..)
  | tlbp => exact .tlbp s
  | tlbr => exact .tlbr s
  | tlbwi => exact .needCp0 (.ite (.writeEntry rfl _) (.refused ..))
  | tlbwr => exact .needCp0 (.writeEntry (s := s) (u := s.freshRandom) rfl _)
  | eret => exact .needCp0 (.needNoSlot (.keep (llDisturbed_exceptionReturn s)))
  | wait => exact .needCp0 (.ite (.fault ..) (.keep rfl))
  | bc0f | bc0t | bc0fl | bc0tl => exact .needCp0 (.branchOn rfl ..)
  -- moves and branches of the FPU
  | prefx => exact .needFpu (.needMips4 (.advance s))
  | mfc1 => exact .needFpu (.writeReg ..)
  | mtc1 => exact .needFpu (.keep (llDisturbed_writeFgrWord ..))
  | dmfc1 => exact .needFpu (.need64 (.ite (.setReg_drew ..) (.writeReg ..)))
  | dmtc1 => exact .needFpu (.need64 (.ite (.refused ..) (.keep rfl)))
  | cfc1 => exact .cfc1 ..
  | ctc1 => exact .ctc1 ..
  | bc1f | bc1t | bc1fl | bc1tl => exact .needFpu (.needCc (.branchOn rfl ..))
  | movf => exact .needFpu (.needMips4 (.ite (.advance s) (.writeReg ..)))
  | movt => exact .needFpu (.needMips4 (.ite (.writeReg ..) (.advance s)))
  | fpMovS | fpMovD => exact .needFpu (.fpMoveIf ..)
  | fpMovfS | fpMovfD | fpMovtS | fpMovtD | fpMovnS | fpMovnD | fpMovzS | fpMovzD =>
    exact .needFpu (.needMips4Fp (.fpMoveIf ..))
  -- arithmetic, conversions and comparisons of the FPU
  | fpAddS | fpAddD | fpSubS | fpSubD | fpMulS | fpMulD | fpDivS | fpDivD | fpSqrtS | fpSqrtD | fpAbsS | fpAbsD | fpNegS
  | fpNegD | fpCvtSD | fpCvtSW | fpCvtDS | fpCvtDW => exact .needFpu (.needEvenFp (.finish ..))
  | fpRecipS | fpRecipD | fpRsqrtS | fpRsqrtD | fpMaddS | fpMaddD | fpMsubS | fpMsubD | fpNmaddS | fpNmaddD | fpNmsubS
  | fpNmsubD => exact .needFpu (.needMips4Fp (.needEvenFp (.finish ..)))
  | fpRoundLS | fpRoundLD | fpTruncLS | fpTruncLD | fpCeilLS | fpCeilLD | fpFloorLS | fpFloorLD | fpCvtLS | fpCvtLD =>
    exact .needFpu (.fpToLong ..)
  | fpRoundWS | fpRoundWD | fpTruncWS | fpTruncWD | fpCeilWS | fpCeilWD | fpFloorWS | fpFloorWD | fpCvtWS | fpCvtWD =>
    exact .needFpu (.fpToWord ..)
  | fpCvtSL | fpCvtDL => exact .needFpu (.fpFromDword ..)
  | fpCFS | fpCFD | fpCUnS | fpCUnD | fpCEqS | fpCEqD | fpCUeqS | fpCUeqD | fpCOltS | fpCOltD | fpCUltS | fpCUltD
  | fpCOleS | fpCOleD | fpCUleS | fpCUleD | fpCSfS | fpCSfD | fpCNgleS | fpCNgleD | fpCSeqS | fpCSeqD | fpCNglS
  | fpCNglD | fpCLtS | fpCLtD | fpCNgeS | fpCNgeD | fpCLeS | fpCLeD | fpCNgtS | fpCNgtD =>
    exact .needFpu (.fpCompare ..)

/-! ## The lists of instructions -/

theorem linkUse_eq_access_iff (i : Instr) : linkUse i = .access ↔ ∃ a b c o, i ∈ (
    [.lb a b o, .lbu a b o, .lh a b o, .lhu a b o, .lw a b o, .lwu a b o, .ld a b o, .lwl a b o, .lwr a b o,
     .ldl a b o, .ldr a b o, .sb a b o, .sh a b o, .sw a b o, .sd a b o, .swl a b o, .swr a b o, .sdl a b o,
     .sdr a b o, .lwc1 a b o, .ldc1 a b o, .swc1 a b o, .sdc1 a b o, .lwxc1 a b c, .ldxc1 a b c,
     .luxc1 a b c, .swxc1 a b c, .sdxc1 a b c, .suxc1 a b c] : List Instr) := by
  constructor
  · unfold linkUse
    split <;> simp
  · rintro ⟨a, b, c, o, h⟩
    fin_cases h <;> rfl

theorem linkUse_eq_link_iff (i : Instr) :
    linkUse i = .link ↔ ∃ a b o, i ∈ ([.ll a b o, .lld a b o] : List Instr) := by
  constructor
  · unfold linkUse
    split <;> simp
  · rintro ⟨a, b, o, h⟩
    fin_cases h <;> rfl

theorem linkUse_eq_conditional_iff (i : Instr) :
    linkUse i = .conditional ↔ ∃ a b o, i ∈ ([.sc a b o, .scd a b o] : List Instr) := by
  constructor
  · unfold linkUse
    split <;> simp
  · rintro ⟨a, b, o, h⟩
    fin_cases h <;> rfl

theorem LinkUse.eq_other_of_ne {use : LinkUse} (ha : use ≠ .access) (hl : use ≠ .link) (hc : use ≠ .conditional) :
    use = .other := by
  cases use with
  | access => exact absurd rfl ha
  | link => exact absurd rfl hl
  | conditional => exact absurd rfl hc
  | other => rfl

/-- Settles O32: the outcomes of `storeConditional`, and the mark that the role of each instruction leaves. -/
theorem storeConditional_spec : Obligations.StoreConditional := by
  intro s base rt offset pa attr
  refine ⟨fun hc => ⟨outcomes_of_storeConditional (exec_sc s base rt offset) hc,
    fun h64 => outcomes_of_storeConditional ((exec_scd s base rt offset).trans (need64_of h64 _)) hc⟩, ?_⟩
  intro i t hs ht
  obtain ⟨hraised, hdone⟩ := (exec_marks s i).of_next hs t ht
  dsimp only
  rw [← linkUse_eq_access_iff, ← linkUse_eq_link_iff, ← linkUse_eq_conditional_iff]
  refine ⟨fun hu => by rwa [hu] at hdone, fun hu => by rwa [hu] at hdone, ?_⟩
  rintro (hr | ⟨ha, hl, hc⟩)
  · exact hraised hr
  · rw [LinkUse.eq_other_of_ne ha hl hc] at hdone
    cases hr : t.raised with
    | true => exact hraised hr
    | false => exact hdone hr

end Sys2Proof.Machine
end

section
/-! O10 to O18: integer arithmetic, logic, shifts and rotates. Each instruction is its gate and one of the shared ends
`writeReg` and `writeWord`; what is left to say is what its operands, its overflow test, its count or its rotation
mean. -/

open Sys2Proof

namespace Sys2Proof.Machine

variable {s : State} {i : Instr} {rd : RegNum}

/-! ## Ends -/

theorem computes_of_need64 {v : Dword} (h64 : s.status.ops64 = true) (hi : exec i s = need64 s (writeReg s rd v)) :
    Computes i s rd v :=
  computes_of_writeReg (hi.trans (need64_of h64 _))

/-- A word operation on one register: r0 stands for the operand that is missing. -/
theorem computes_of_writeWord_single {a : RegNum} {w : Word} (hi : exec i s = writeWord s (isSext (s.reg a)) rd w) :
    Computes i s rd (wordValue s a 0 w) :=
  computes_of_writeWord (hi.trans (by simp))

/-! ## Immediates -/

theorem low_simm (imm : BitVec 16) : low (simm imm) = imm.signExtend 32 := by
  apply BitVec.eq_of_getLsbD_eq
  intro j hj
  rw [getLsbD_low _ hj, simm, BitVec.getLsbD_signExtend, BitVec.getLsbD_signExtend, decide_eq_true hj,
    decide_eq_true (hj.trans (by decide))]

theorem toInt_simm (imm : BitVec 16) : (simm imm).toInt = imm.toInt := BitVec.toInt_signExtend_of_le (by decide)

theorem toInt_low_simm (imm : BitVec 16) : (low (simm imm)).toInt = imm.toInt := by
  rw [low_simm, BitVec.toInt_signExtend_of_le (by decide)]

theorem zimm_eq_append (imm : BitVec 16) : zimm imm = 0#48 ++ imm := BitVec.setWidth_eq_append (by decide)

/-! ## Logic (41_alu.md R408 to R411, R420 to R423) -/

/-- Settles O13: each instruction is `writeReg` of the value that its rule prints. -/
theorem logicalInstructions : Obligations.LogicalInstructions := by
  intro s rs rt rd imm
  rw [← zimm_eq_append]
  exact ⟨computes_of_writeReg (exec_and s rs rt rd), computes_of_writeReg (exec_or s rs rt rd),
    computes_of_writeReg (exec_xor s rs rt rd), computes_of_writeReg (exec_nor s rs rt rd),
    computes_of_writeReg (exec_andi s rs rt imm), computes_of_writeReg (exec_ori s rs rt imm),
    computes_of_writeReg (exec_xori s rs rt imm), computes_of_writeReg (exec_lui s rt imm)⟩

/-! ## Sums and differences (R402, R404, R405, R412 to R417, R424 to R427) -/

theorem addiOverflows32_iff (a : Word) (imm : BitVec 16) :
    addOverflows32 a (low (simm imm)) = true ↔ ¬ InWord (a.toInt + imm.toInt) := by
  rw [addOverflows32_iff, toInt_low_simm]

theorem addiOverflows64_iff (a : Dword) (imm : BitVec 16) :
    addOverflows64 a (simm imm) = true ↔ ¬ InDword (a.toInt + imm.toInt) := by
  rw [addOverflows64_iff, toInt_simm]

theorem ofInt_toInt_add (a b : Dword) : BitVec.ofInt 64 (a.toInt + b.toInt) = a + b := by
  rw [BitVec.ofInt_add, BitVec.ofInt_toInt, BitVec.ofInt_toInt]

theorem ofInt_toInt_sub (a b : Dword) : BitVec.ofInt 64 (a.toInt - b.toInt) = a - b := by
  rw [Int.sub_eq_add_neg, BitVec.ofInt_add, BitVec.ofInt_neg, BitVec.ofInt_toInt, BitVec.ofInt_toInt,
    BitVec.sub_eq_add_neg]

/-- The state after an integer overflow: the general entry, with code 12 and no register written (60_exceptions.md
R1003, R1016). -/
theorem takeException_overflow (s : State) : SameRegs s (takeException .overflow s) ∧
    (takeException .overflow s).cp0.cause.excCode = 12 ∧ (takeException .overflow s).cp0.cause.bd = s.inDelay ∧
    (s.status.exl = false → (takeException .overflow s).cp0.epc = if s.inDelay then s.pc - 4 else s.pc) :=
  ⟨State.reg_eq_of_gpr_eq s (takeException_gpr .overflow s), rfl, rfl, fun hexl => if_neg (Bool.eq_false_iff.1 hexl)⟩

/-- Where `fits` holds the instruction writes `d` and nothing else; where it does not, it raises integer overflow. -/
def ChecksOverflow (s : State) (i : Instr) (fits : Prop) (d : RegNum) : Prop :=
  (fits → ∃ v, Computes i s d v) ∧
  (¬ fits → ∃ t, exec i s = .next t ∧ t = takeException .overflow s ∧ SameRegs s t ∧ t.cp0.cause.excCode = 12 ∧
    t.cp0.cause.bd = s.inDelay ∧ (s.status.exl = false → t.cp0.epc = if s.inDelay then s.pc - 4 else s.pc))

section Guard
variable {overflows : Bool} {fits : Prop} (hov : overflows = true ↔ ¬ fits)
include hov

/-- An instruction behind an overflow test goes on where the exact result fits. -/
theorem exec_eq_of_fits {k : Result} (hi : exec i s = if overflows then raise .overflow s else k) (h : fits) :
    exec i s = k :=
  hi.trans (if_neg fun ho => hov.1 ho h)

theorem computes_of_need64_fits {v : Dword} (h64 : s.status.ops64 = true)
    (hi : exec i s = need64 s (if overflows then raise .overflow s else writeReg s rd v)) (h : fits) :
    Computes i s rd v :=
  computes_of_writeReg (exec_eq_of_fits hov (hi.trans (need64_of h64 _)) h)

theorem checksOverflow_of {k : Result} (hi : exec i s = if overflows then raise .overflow s else k)
    (hk : exec i s = k → ∃ v, Computes i s rd v) : ChecksOverflow s i fits rd :=
  ⟨fun h => hk (exec_eq_of_fits hov hi h), fun h => ⟨_, hi.trans (if_pos (hov.2 h)), rfl, takeException_overflow s⟩⟩

theorem checksOverflow_of_writeWord {valid : Bool} {w : Word}
    (hi : exec i s = if overflows then raise .overflow s else writeWord s valid rd w) : ChecksOverflow s i fits rd :=
  checksOverflow_of hov hi fun h => by
    cases valid with
    | true => exact ⟨_, computes_of_writeReg h⟩
    | false => exact ⟨_, computes_of_drew h⟩

theorem checksOverflow_of_writeReg {v : Dword}
    (hi : exec i s = if overflows then raise .overflow s else writeReg s rd v) : ChecksOverflow s i fits rd :=
  checksOverflow_of hov hi fun h => ⟨v, computes_of_writeReg h⟩

end Guard

/-- Settles O10: the unchecked forms are `writeWord`; the checked ones are too where the result fits. -/
theorem wordAddSubtract : Obligations.WordAddSubtract := by
  intro s rs rt rd imm
  rw [← low_simm]
  exact ⟨computes_of_writeWord_single (exec_addiu s rs rt imm), computes_of_writeWord (exec_addu s rs rt rd),
    computes_of_writeWord (exec_subu s rs rt rd),
    fun h => computes_of_writeWord_single (exec_eq_of_fits (addiOverflows32_iff _ _) (exec_addi s rs rt imm) h),
    fun h => computes_of_writeWord (exec_eq_of_fits (addOverflows32_iff _ _) (exec_add s rs rt rd) h),
    fun h => computes_of_writeWord (exec_eq_of_fits (subOverflows32_iff _ _) (exec_sub s rs rt rd) h)⟩

/-- Settles O11: each instruction is an overflow test before its end, the doubleword forms behind the gate of the 64-bit
operations. -/
theorem integerOverflowRaises : Obligations.IntegerOverflowRaises := fun s rs rt rd imm =>
  ⟨checksOverflow_of_writeWord (addiOverflows32_iff _ _) (exec_addi s rs rt imm),
    checksOverflow_of_writeWord (addOverflows32_iff _ _) (exec_add s rs rt rd),
    checksOverflow_of_writeWord (subOverflows32_iff _ _) (exec_sub s rs rt rd),
    fun h64 =>
      ⟨checksOverflow_of_writeReg (addiOverflows64_iff _ _) ((exec_daddi s rs rt imm).trans (need64_of h64 _)),
        checksOverflow_of_writeReg (addOverflows64_iff _ _) ((exec_dadd s rs rt rd).trans (need64_of h64 _)),
        checksOverflow_of_writeReg (subOverflows64_iff _ _) ((exec_dsub s rs rt rd).trans (need64_of h64 _))⟩⟩

/-- Settles O12: the exact result modulo 2^64 is the sum or difference of the doublewords. -/
theorem doublewordAddSubtract : Obligations.DoublewordAddSubtract := by
  intro s rs rt rd imm h64
  rw [← toInt_simm, ofInt_toInt_add, ofInt_toInt_add, ofInt_toInt_sub, toInt_simm]
  exact ⟨computes_of_need64 h64 (exec_daddiu s rs rt imm), computes_of_need64 h64 (exec_daddu s rs rt rd),
    computes_of_need64 h64 (exec_dsubu s rs rt rd),
    computes_of_need64_fits (addiOverflows64_iff _ _) h64 (exec_daddi s rs rt imm),
    computes_of_need64_fits (addOverflows64_iff _ _) h64 (exec_dadd s rs rt rd),
    computes_of_need64_fits (subOverflows64_iff _ _) h64 (exec_dsub s rs rt rd)⟩

/-! ## Compares and conditional moves (R406, R407, R418, R419, R428, R429) -/

theorem truth_slt (a b : Dword) : truth (a.slt b) = if a.toInt < b.toInt then 1 else 0 := by
  simp [truth, BitVec.slt_eq_decide]

theorem truth_ult (a b : Dword) : truth (a.ult b) = if a.toNat < b.toNat then 1 else 0 := by
  simp [truth, BitVec.ult_eq_decide]

/-- Settles O14: the compares write the `truth` of an order of the integers; a move is `writeReg` on one side of its
test and `advance` on the other. -/
theorem comparesAndConditionalMoves : Obligations.ComparesAndConditionalMoves := by
  intro s rs rt rd imm
  rw [← toInt_simm, ← truth_slt, ← truth_slt, ← truth_ult, ← truth_ult]
  refine ⟨computes_of_writeReg (exec_slt s rs rt rd), computes_of_writeReg (exec_sltu s rs rt rd),
    computes_of_writeReg (exec_slti s rs rt imm), computes_of_writeReg (exec_sltiu s rs rt imm), fun hm => ?_⟩
  have hmovz := (exec_movz s rs rt rd).trans (needMips4_of hm _)
  have hmovn := (exec_movn s rs rt rd).trans (needMips4_of hm _)
  split
  · next h => exact ⟨computes_of_writeReg (hmovz.trans (if_pos h)),
      doesNothing_of_advance (hmovn.trans (if_neg (by simp [h])))⟩
  · next h => exact ⟨computes_of_writeReg (hmovn.trans (if_pos (bne_iff_ne.2 h))),
      doesNothing_of_advance (hmovz.trans (if_neg h))⟩

/-! ## Leading zeros and ones (R450 to R453) -/

/-- `n` is the length of the run of bits `b` at the left end of the low `k` bits of `v`. -/
structure LeadingRun (v : Dword) (b : Bool) (k n : Nat) : Prop where
  le : n ≤ k
  inside : ∀ j, k - n ≤ j → j < k → v.getLsbD j = b
  next : n < k → v.getLsbD (k - 1 - n) = !b

theorem leadingRun_leadingZeros (v : Dword) (k : Nat) : LeadingRun v false k (leadingZeros v k) := by
  induction k with
  | zero => exact ⟨Nat.le_refl 0, fun j _ hj => absurd hj (by omega), fun h => absurd h (by omega)⟩
  | succ k ih =>
    obtain ⟨hle, hinside, hnext⟩ := ih
    cases htop : v.getLsbD k with
    | true =>
      rw [leadingZeros, if_pos htop]
      exact ⟨Nat.zero_le _, fun j hlo hhi => absurd hhi (by omega), fun _ => htop⟩
    | false =>
      rw [leadingZeros, if_neg (by simp [htop])]
      refine ⟨by omega, fun j hlo hhi => ?_, fun h => ?_⟩
      · obtain rfl | hlt := Nat.eq_or_lt_of_le (Nat.le_of_lt_succ hhi)
        · exact htop
        · exact hinside j (by omega) hlt
      · rw [show k + 1 - 1 - (leadingZeros v k + 1) = k - 1 - leadingZeros v k by omega]
        exact hnext (by omega)

/-- Leading ones are the leading zeros of the complement. -/
theorem leadingRun_leadingZeros_not (v : Dword) {k : Nat} (hk : k ≤ 64) :
    LeadingRun v true k (leadingZeros (~~~v) k) := by
  have hnot {j : Nat} (hj : j < k) {b : Bool} (h : (~~~v).getLsbD j = b) : v.getLsbD j = !b := by
    rw [← h, BitVec.getLsbD_not, decide_eq_true (hj.trans_le hk), Bool.true_and, Bool.not_not]
  obtain ⟨hle, hinside, hnext⟩ := leadingRun_leadingZeros (~~~v) k
  exact ⟨hle, fun j hlo hhi => hnot hhi (hinside j hlo hhi), fun h => hnot (by omega) (hnext h)⟩

/-- Settles O15: each instruction writes a count of `leadingZeros`, which is the length of a leading run. -/
theorem leadingBitCounts : Obligations.LeadingBitCounts := by
  intro s rs rd
  refine ⟨?_, ?_, fun h64 => ?_, fun h64 => ?_⟩
  · obtain ⟨hle, hinside, hnext⟩ := leadingRun_leadingZeros (s.reg rs) 32
    exact ⟨_, hle, computes_of_writeWord_single (exec_clz s rs rd), hinside, hnext⟩
  · obtain ⟨hle, hinside, hnext⟩ := leadingRun_leadingZeros_not (s.reg rs) (k := 32) (by decide)
    exact ⟨_, hle, computes_of_writeWord_single (exec_clo s rs rd), hinside, hnext⟩
  · obtain ⟨hle, hinside, hnext⟩ := leadingRun_leadingZeros (s.reg rs) 64
    exact ⟨_, hle, computes_of_need64 h64 (exec_dclz s rs rd), hinside, hnext⟩
  · obtain ⟨hle, hinside, hnext⟩ := leadingRun_leadingZeros_not (s.reg rs) (k := 64) (by decide)
    exact ⟨_, hle, computes_of_need64 h64 (exec_dclo s rs rd), hinside, hnext⟩

/-! ## Shifts (R430 to R444; 44_special_trap.md R653) -/

theorem shift5_eq_mod (v : Dword) : shift5 v = v.toNat % 32 := BitVec.extractLsb'_toNat 0 5 v

theorem shift6_eq_mod (v : Dword) : shift6 v = v.toNat % 64 := BitVec.extractLsb'_toNat 0 6 v

/-- Settles O16: the left shifts are `writeReg`, the right shifts `writeWord`; a variable amount is `shift5` of rs. -/
theorem wordShifts : Obligations.WordShifts := by
  intro s rs rt rd sa
  rw [← shift5_eq_mod]
  exact ⟨computes_of_writeReg (exec_sll s rt rd sa), computes_of_writeWord_single (exec_srl s rt rd sa),
    computes_of_writeWord_single (exec_sra s rt rd sa), computes_of_writeReg (exec_sllv s rs rt rd),
    computes_of_writeWord (exec_srlv s rs rt rd), computes_of_writeWord (exec_srav s rs rt rd),
    doesNothing_of_advance (exec_ssnop s)⟩

/-- Settles O17: each shift is `writeReg` behind the gate of the 64-bit operations; a variable amount is `shift6` of
rs. -/
theorem doublewordShifts : Obligations.DoublewordShifts := by
  intro s rs rt rd sa h64
  rw [← shift6_eq_mod]
  exact ⟨computes_of_need64 h64 (exec_dsll s rt rd sa), computes_of_need64 h64 (exec_dsrl s rt rd sa),
    computes_of_need64 h64 (exec_dsra s rt rd sa), computes_of_need64 h64 (exec_dsll32 s rt rd sa),
    computes_of_need64 h64 (exec_dsrl32 s rt rd sa), computes_of_need64 h64 (exec_dsra32 s rt rd sa),
    computes_of_need64 h64 (exec_dsllv s rs rt rd), computes_of_need64 h64 (exec_dsrlv s rs rt rd),
    computes_of_need64 h64 (exec_dsrav s rs rt rd)⟩

/-! ## Rotates (R445 to R449) -/

/-- The bits of a rotate: each comes from `r` places further left, round the end of the vector. -/
theorem getLsbD_rotateRight_eq_mod {w : Nat} (x : BitVec w) (r : Nat) {j : Nat} (hj : j < w) :
    (x.rotateRight r).getLsbD j = x.getLsbD ((j + r) % w) := by
  have hr : r % w < w := Nat.mod_lt _ (by omega)
  rw [BitVec.getLsbD_rotateRight, ← Nat.add_mod_mod]
  generalize r % w = q at hr ⊢
  by_cases h : j < w - q
  · rw [decide_eq_true h, cond_true, Nat.mod_eq_of_lt (by omega), Nat.add_comm]
  · rw [decide_eq_false h, cond_false, decide_eq_true hj, Bool.true_and, Nat.mod_eq_sub_mod (by omega),
      Nat.mod_eq_of_lt (by omega)]
    congr 1
    omega

theorem getLsbD_rotateRight_low (v : Dword) (r : Nat) {j : Nat} (hj : j < 32) :
    ((low v).rotateRight r).getLsbD j = v.getLsbD ((j + r) % 32) := by
  rw [getLsbD_rotateRight_eq_mod _ _ hj, getLsbD_low v (Nat.mod_lt _ (by decide))]

/-- Settles O18: each instruction writes a `rotateRight`, whose bits the two laws above give. -/
theorem rotates : Obligations.Rotates := by
  intro s rs rt rd sa
  simp only [← shift5_eq_mod, Nat.add_assoc]
  exact ⟨⟨_, computes_of_writeReg (exec_ror s rt rd sa), fun _ => getLsbD_rotateRight_low _ _⟩,
    ⟨_, computes_of_writeReg (exec_rorv s rs rt rd), fun _ => getLsbD_rotateRight_low _ _⟩,
    fun h64 =>
      ⟨⟨_, computes_of_need64 h64 (exec_dror s rt rd sa), fun _ => getLsbD_rotateRight_eq_mod _ _⟩,
        ⟨_, computes_of_need64 h64 (exec_dror32 s rt rd sa), fun _ => getLsbD_rotateRight_eq_mod _ _⟩,
        ⟨_, computes_of_need64 h64 (exec_drorv s rs rt rd), fun _ => getLsbD_rotateRight_eq_mod _ _⟩⟩⟩

end Sys2Proof.Machine
end

section
/-! O19, O20, O22 and O23: multiply, divide and the sums of products. Each instruction is one of the shared ends that
write HI and LO; what is left to say is that the words they write are those of the exact integers. -/

open Sys2Proof

namespace Sys2Proof.Machine

variable {s : State} {i : Instr} {rd : RegNum} {hi lo : Dword}

/-! ## Ends -/

/-- An instruction that writes HI and LO, draws free values and sets or clears the mark of log 20. -/
theorem computesHiLo_of_drew_mark {n : Nat} {b : Bool}
    (h : exec i s = .next (((s.setHiLo hi lo).drew n).setHiLoFresh b).advance) : ComputesHiLo i s hi lo 0 0 :=
  ⟨_, h, advanced_advance rfl, (hiLoEffect_setHiLo s hi lo 0 0).congr rfl rfl rfl rfl rfl rfl
    (by apply SameSystem.of <;> simp)⟩

section WordEnds
variable {defined : Bool} {hiWord loWord : Word}

theorem computesHiLo_of_writeHiLoWords (hd : defined = true) (h : exec i s = writeHiLoWords s defined hiWord loWord) :
    ComputesHiLo i s (sext hiWord) (sext loWord) 0 0 :=
  computesHiLo_of_drew_mark (n := 0) (h.trans (if_pos hd))

theorem computesHiLo_free_of_writeHiLoWords (hd : defined = false)
    (h : exec i s = writeHiLoWords s defined hiWord loWord) : ComputesHiLo i s (s.free 0) (s.free 1) 0 0 :=
  computesHiLo_of_drew_mark (h.trans (if_neg (Bool.eq_false_iff.1 hd)))

end WordEnds

section DoublewordEnds
variable {divisor : Dword}

theorem computesHiLo_of_writeHiLoDiv (hd : divisor ≠ 0) (h : exec i s = writeHiLoDiv s divisor hi lo) :
    ComputesHiLo i s hi lo 0 0 :=
  computesHiLo_of_setHiLo (h.trans (if_neg hd))

theorem computesHiLo_free_of_writeHiLoDiv (hd : divisor = 0) (h : exec i s = writeHiLoDiv s divisor hi lo) :
    ComputesHiLo i s (s.free 0) (s.free 1) 0 0 :=
  computesHiLo_of_drew_mark (b := s.hiLoFresh) (h.trans (if_pos hd))

end DoublewordEnds

/-! ## Words (42_muldiv.md R504 to R507) -/

/-- Settles O19: the four instructions share the end `writeHiLoWords`; its test is that of the operands and, for a
division, the divisor. -/
theorem wordMultiplyDivide : Obligations.WordMultiplyDivide := by
  intro s rs rt
  dsimp only
  rw [← productS_eq, ← productU_eq]
  refine ⟨fun ha hb => ?_, fun hab => ?_, fun habd => ?_⟩
  · have hab : (isSext (s.reg rs) && isSext (s.reg rt)) = true := by rw [ha, hb]; rfl
    refine ⟨computesHiLo_of_writeHiLoWords hab (exec_mult s rs rt),
      computesHiLo_of_writeHiLoWords hab (exec_multu s rs rt), fun hd => ?_⟩
    have habd : (isSext (s.reg rs) && isSext (s.reg rt) && low (s.reg rt) != 0) = true := by
      rw [hab, bne_iff_ne.2 hd]; rfl
    exact ⟨computesHiLo_of_writeHiLoWords habd (exec_div s rs rt),
      computesHiLo_of_writeHiLoWords habd (exec_divu s rs rt)⟩
  · exact ⟨computesHiLo_free_of_writeHiLoWords hab (exec_mult s rs rt),
      computesHiLo_free_of_writeHiLoWords hab (exec_multu s rs rt)⟩
  · exact ⟨computesHiLo_free_of_writeHiLoWords habd (exec_div s rs rt),
      computesHiLo_free_of_writeHiLoWords habd (exec_divu s rs rt)⟩

/-! ## Doublewords (R508 to R511) -/

/-- The upper half of a 128-bit value is the integer without its low 64 bits. -/
theorem extractLsb'_high_ofInt (x : Int) : (BitVec.ofInt 128 x).extractLsb' 64 64 = BitVec.ofInt 64 (x / 2 ^ 64) := by
  apply BitVec.eq_of_toNat_eq
  rw [BitVec.extractLsb'_toNat, BitVec.toNat_ofInt, BitVec.toNat_ofInt, Nat.shiftRight_eq_div_pow]
  omega

theorem extractLsb'_low_ofInt (x : Int) : (BitVec.ofInt 128 x).extractLsb' 0 64 = BitVec.ofInt 64 x := by
  apply BitVec.eq_of_toNat_eq
  rw [BitVec.extractLsb'_toNat, BitVec.toNat_ofInt, BitVec.toNat_ofInt, Nat.shiftRight_zero]
  omega

/-- The signed product of two doublewords is the exact one: 128 bits hold it. -/
theorem signExtend_mul_eq (a b : Dword) :
    a.signExtend 128 * b.signExtend 128 = BitVec.ofInt 128 (a.toInt * b.toInt) := by
  rw [BitVec.ofInt_mul]; rfl

/-- The unsigned one is as well. -/
theorem setWidth_mul_eq (a b : Dword) :
    a.setWidth 128 * b.setWidth 128 = BitVec.ofInt 128 (a.toNat * b.toNat : Nat) := by
  rw [BitVec.ofInt_natCast]
  apply BitVec.eq_of_toNat_eq
  simp

/-- A doubleword product written as its 128 bits. -/
theorem computesHiLo_of_product {t : BitVec 128} {x : Int} (h64 : s.status.ops64 = true) (ht : t = BitVec.ofInt 128 x)
    (h : exec i s = need64 s (.next (s.setHiLo (t.extractLsb' 64 64) (t.extractLsb' 0 64)).advance)) :
    ComputesHiLo i s (BitVec.ofInt 64 (x / 2 ^ 64)) (BitVec.ofInt 64 x) 0 0 := by
  rw [← extractLsb'_high_ofInt, ← extractLsb'_low_ofInt, ← ht]
  exact computesHiLo_of_setHiLo (h.trans (need64_of h64 _))

/-- Settles O20: the products are the halves of 128 bits, the quotients share the end `writeHiLoDiv`. -/
theorem doublewordMultiplyDivide : Obligations.DoublewordMultiplyDivide := by
  intro s rs rt h64
  have hddiv := (exec_ddiv s rs rt).trans (need64_of h64 _)
  have hddivu := (exec_ddivu s rs rt).trans (need64_of h64 _)
  refine ⟨computesHiLo_of_product h64 (signExtend_mul_eq _ _) (exec_dmult s rs rt),
    computesHiLo_of_product h64 (setWidth_mul_eq _ _) (exec_dmultu s rs rt), ?_⟩
  split
  · next hd => exact ⟨computesHiLo_free_of_writeHiLoDiv hd hddiv, computesHiLo_free_of_writeHiLoDiv hd hddivu⟩
  · next hd => exact ⟨computesHiLo_of_writeHiLoDiv hd hddiv, computesHiLo_of_writeHiLoDiv hd hddivu⟩

/-! ## Sums of products (R516 to R536) -/

section Exact
variable {a b : Dword} {x y : Int}

theorem add_eq_ofInt (ha : a = BitVec.ofInt 64 x) (hb : b = BitVec.ofInt 64 y) : a + b = BitVec.ofInt 64 (x + y) := by
  rw [BitVec.ofInt_add, ha, hb]

theorem sub_eq_ofInt (ha : a = BitVec.ofInt 64 x) (hb : b = BitVec.ofInt 64 y) : a - b = BitVec.ofInt 64 (x - y) := by
  rw [BitVec.sub_eq_add_neg, Int.sub_eq_add_neg, BitVec.ofInt_add, BitVec.ofInt_neg, ha, hb]

theorem zero_sub_eq_ofInt (ha : a = BitVec.ofInt 64 x) : 0 - a = BitVec.ofInt 64 (-x) := by
  rw [BitVec.ofInt_neg, ← ha]
  exact BitVec.zero_sub a

/-- The ends of the sums of products, whose value is exact modulo 2^64. -/
theorem computesHiLo_of_setAcc (ha : a = BitVec.ofInt 64 x) (h : exec i s = .next (s.setAcc a).advance) :
    ComputesHiLo i s (sext (high (BitVec.ofInt 64 x))) (sext (low (BitVec.ofInt 64 x))) 0 0 :=
  ha ▸ computesHiLo_of_setHiLo h

theorem computesHiLo_of_maccLow_exact (ha : a = BitVec.ofInt 64 x) (h : exec i s = maccLow s rd a) :
    ComputesHiLo i s (sext (high (BitVec.ofInt 64 x))) (sext (low (BitVec.ofInt 64 x))) rd
      (sext (low (BitVec.ofInt 64 x))) :=
  ha ▸ computesHiLo_of_maccLow h

theorem computesHiLo_of_maccHigh_exact (ha : a = BitVec.ofInt 64 x) (h : exec i s = maccHigh s rd a) :
    ComputesHiLo i s (sext (high (BitVec.ofInt 64 x))) (sext (low (BitVec.ofInt 64 x))) rd
      (sext (high (BitVec.ofInt 64 x))) :=
  ha ▸ computesHiLo_of_maccHigh h

end Exact

/-- The unsigned product is the exact one, as an integer. -/
theorem productU_eq_ofInt (a b : Word) : productU a b = BitVec.ofInt 64 (a.toNat * b.toNat : Nat) := by
  rw [productU_eq, BitVec.ofInt_natCast]

theorem setHiLo_setReg (s : State) (r : RegNum) (v hi lo : Dword) :
    (s.setReg r v).setHiLo hi lo = (s.setHiLo hi lo).setReg r v := by
  unfold State.setReg
  split <;> rfl

/-- MUL64 writes its register before HI and LO. -/
theorem computesHiLo_of_setReg_setHiLo {v : Dword} {n : Nat}
    (h : exec i s = .next (((s.setReg rd v).setHiLo hi lo).drew n).advance) : ComputesHiLo i s hi lo rd v := by
  rw [setHiLo_setReg] at h
  exact ⟨_, h, advanced_advance (by simp), (hiLoEffect_setHiLo s hi lo rd v).congr rfl rfl rfl rfl rfl rfl
    (sameSystem_drew _ n)⟩

/-- Settles O22: each sum is the accumulator and a product, both exact modulo 2^64; MUL64 writes HI and LO beside its
register. -/
theorem sumsOfProducts : Obligations.SumsOfProducts := by
  intro s rs rt rd
  have hacc := acc_eq s
  have hp := productS_eq (low (s.reg rs)) (low (s.reg rt))
  have hu := productU_eq_ofInt (low (s.reg rs)) (low (s.reg rt))
  refine ⟨computesHiLo_of_setAcc (add_eq_ofInt hacc hp) (exec_madd s rs rt),
    computesHiLo_of_setAcc (add_eq_ofInt hacc hu) (exec_maddu s rs rt),
    computesHiLo_of_setAcc (sub_eq_ofInt hacc hp) (exec_msub s rs rt),
    computesHiLo_of_setAcc (sub_eq_ofInt hacc hu) (exec_msubu s rs rt), ?_⟩
  dsimp only
  rw [← hp]
  exact computesHiLo_of_setReg_setHiLo (exec_mul64 s rs rt rd)

/-- Settles O23: the sixteen instructions are the two ends `maccLow` and `maccHigh` of the eight values p, -p, acc + p
and acc - p, signed and unsigned. -/
theorem maccFamily : Obligations.MaccFamily := by
  intro s rs rt rd
  have hacc := acc_eq s
  have hp := productS_eq (low (s.reg rs)) (low (s.reg rt))
  have hu := productU_eq_ofInt (low (s.reg rs)) (low (s.reg rt))
  exact ⟨computesHiLo_of_maccLow_exact (add_eq_ofInt hacc hp) (exec_macc s rs rt rd),
    computesHiLo_of_maccHigh_exact (add_eq_ofInt hacc hp) (exec_macchi s rs rt rd),
    computesHiLo_of_maccHigh_exact (add_eq_ofInt hacc hu) (exec_macchiu s rs rt rd),
    computesHiLo_of_maccLow_exact (add_eq_ofInt hacc hu) (exec_maccu s rs rt rd),
    computesHiLo_of_maccLow_exact (sub_eq_ofInt hacc hp) (exec_msac s rs rt rd),
    computesHiLo_of_maccHigh_exact (sub_eq_ofInt hacc hp) (exec_msachi s rs rt rd),
    computesHiLo_of_maccHigh_exact (sub_eq_ofInt hacc hu) (exec_msachiu s rs rt rd),
    computesHiLo_of_maccLow_exact (sub_eq_ofInt hacc hu) (exec_msacu s rs rt rd),
    computesHiLo_of_maccLow_exact hp (exec_mul s rs rt rd), computesHiLo_of_maccHigh_exact hp (exec_mulhi s rs rt rd),
    computesHiLo_of_maccHigh_exact hu (exec_mulhiu s rs rt rd),
    computesHiLo_of_maccLow_exact (zero_sub_eq_ofInt hp) (exec_muls s rs rt rd),
    computesHiLo_of_maccHigh_exact (zero_sub_eq_ofInt hp) (exec_mulshi s rs rt rd),
    computesHiLo_of_maccHigh_exact (zero_sub_eq_ofInt hu) (exec_mulshiu s rs rt rd),
    computesHiLo_of_maccLow_exact (zero_sub_eq_ofInt hu) (exec_mulsu s rs rt rd),
    computesHiLo_of_maccLow_exact hu (exec_mulu s rs rt rd)⟩

end Sys2Proof.Machine
end

section
/-! O21: the moves of HI and LO, and the mark of log 20. `freshAfter` says what an instruction makes of the mark; one
predicate, `LeavesFresh`, says which mark every state of an answer has. -/

open Sys2Proof

namespace Sys2Proof.Machine

variable {s t u : State}

/-! ## The moves (42_muldiv.md R512 to R515) -/

/-- MFHI and MFLO write one register and clear the mark. -/
theorem computes_of_setReg_mark {i : Instr} {rd : RegNum} {v : Dword} {b : Bool}
    (h : exec i s = .next ((s.setReg rd v).setHiLoFresh b).advance) : Computes i s rd v :=
  ⟨_, h, advanced_advance (by simp),
    { value := by simp
      regs := fun r hr => by simp [State.reg_setReg_ne _ _ _ _ hr]
      hiLo := by constructor <;> simp
      fpRegs := fun j => by simp
      fcr31 := by simp
      system := by apply SameSystem.of <;> simp
      memory := fun a => by simp }⟩

/-- MTHI and MTLO: what they write depends on the mark. -/
theorem computesHiLo_of_moveToHiLo {i : Instr} {hi lo hi' lo' : Dword}
    (h : exec i s = if s.hiLoFresh then .next (((s.setHiLo hi lo).drew 1).setHiLoFresh false).advance
      else .next (s.setHiLo hi' lo').advance) :
    ComputesHiLo i s (if s.hiLoFresh then hi else hi') (if s.hiLoFresh then lo else lo') 0 0 := by
  split at h
  · next hf => rw [if_pos hf, if_pos hf]; exact computesHiLo_of_drew_mark h
  · next hf => rw [if_neg hf, if_neg hf]; exact computesHiLo_of_setHiLo h

/-! ## What an instruction makes of the mark (log 20) -/

/-- The mark after an instruction has run where it was `before`. -/
def freshAfter (before : Bool) : Instr → Bool
  | .mult .. | .multu .. | .div .. | .divu .. => true
  | .mfhi .. | .mflo .. | .mthi .. | .mtlo .. => false
  | _ => before

theorem freshAfter_of_sets {before : Bool} {i : Instr}
    (h : ∃ a b, i ∈ ([.mult a b, .multu a b, .div a b, .divu a b] : List Instr)) : freshAfter before i = true := by
  obtain ⟨a, b, h⟩ := h
  fin_cases h <;> rfl

theorem freshAfter_of_clears {before : Bool} {i : Instr}
    (h : ∃ a, i ∈ ([.mfhi a, .mflo a, .mthi a, .mtlo a] : List Instr)) : freshAfter before i = false := by
  obtain ⟨a, h⟩ := h
  fin_cases h <;> rfl

theorem freshAfter_of_neither {before : Bool} {i : Instr}
    (hs : ¬ ∃ a b, i ∈ ([.mult a b, .multu a b, .div a b, .divu a b] : List Instr))
    (hc : ¬ ∃ a, i ∈ ([.mfhi a, .mflo a, .mthi a, .mtlo a] : List Instr)) : freshAfter before i = before := by
  unfold freshAfter
  split
  case h_9 => rfl
  all_goals simp at hs hc

/-- Every state that the answer `r` may be has the mark `b`. -/
structure LeavesFresh (b : Bool) (r : Result) : Prop where
  of_next : ∀ t, r = .next t → t.hiLoFresh = b

variable {b : Bool}

theorem LeavesFresh.next (h : t.hiLoFresh = b) : LeavesFresh b (.next t) where
  of_next _ e := Host.Outcome.next.inj e ▸ h

theorem hiLoFresh_countRefill (e : Exc) (s : State) : (s.countRefill e).hiLoFresh = s.hiLoFresh := by
  cases e <;> rfl

theorem hiLoFresh_recordCause (e : Exc) (s : State) : (s.recordCause e).hiLoFresh = s.hiLoFresh := by
  cases e <;> rfl

theorem hiLoFresh_takeException (e : Exc) (s : State) : (takeException e s).hiLoFresh = s.hiLoFresh :=
  (hiLoFresh_recordCause e _).trans (hiLoFresh_countRefill e s)

theorem LeavesFresh.raise (e : Exc) (h : u.hiLoFresh = b) : LeavesFresh b (raise e u) :=
  .next ((hiLoFresh_takeException e u).trans h)

theorem LeavesFresh.refused (r : Refusal) : LeavesFresh b (.refused r) where
  of_next _ h := by simp at h

theorem LeavesFresh.fault (f : Fault) : LeavesFresh b (.fault f) where
  of_next _ h := by simp at h

theorem LeavesFresh.ite {c : Prop} [Decidable c] {x y : Result} (hx : LeavesFresh b x) (hy : LeavesFresh b y) :
    LeavesFresh b (if c then x else y) := by
  split
  · exact hx
  · exact hy

/-! ## Gates -/

section Gates
variable {k : Result}

theorem LeavesFresh.needCp0 (h : LeavesFresh s.hiLoFresh k) : LeavesFresh s.hiLoFresh (needCp0 s k) :=
  .ite h (.raise _ rfl)
theorem LeavesFresh.needFpu (h : LeavesFresh s.hiLoFresh k) : LeavesFresh s.hiLoFresh (needFpu s k) :=
  .ite h (.raise _ rfl)
theorem LeavesFresh.need64 (h : LeavesFresh s.hiLoFresh k) : LeavesFresh s.hiLoFresh (need64 s k) :=
  .ite h (.raise _ rfl)
theorem LeavesFresh.needMips4 (h : LeavesFresh s.hiLoFresh k) : LeavesFresh s.hiLoFresh (needMips4 s k) :=
  .ite h (.raise _ rfl)
theorem LeavesFresh.raiseUnimplemented (s : State) : LeavesFresh s.hiLoFresh (raiseUnimplemented s) := .raise _ rfl
theorem LeavesFresh.needMips4Fp (h : LeavesFresh s.hiLoFresh k) : LeavesFresh s.hiLoFresh (needMips4Fp s k) :=
  .ite h (.raiseUnimplemented s)
theorem LeavesFresh.needCc {cc : BitVec 3} (h : LeavesFresh s.hiLoFresh k) : LeavesFresh s.hiLoFresh (needCc s cc k) :=
  .ite h (.needMips4Fp h)
theorem LeavesFresh.needNoSlot (h : LeavesFresh b k) : LeavesFresh b (needNoSlot s k) := .ite (.refused _) h
theorem LeavesFresh.needEvenFp {l : List FprNum} (h : LeavesFresh b k) : LeavesFresh b (needEvenFp s l k) :=
  .ite (.refused _) h

theorem LeavesFresh.withData {va : Dword} {n : Nat} {store : Bool} {k : PAddr → CacheAttr → Result}
    (h : ∀ pa attr, LeavesFresh s.hiLoFresh (k pa attr)) : LeavesFresh s.hiLoFresh (withData s va n store k) := by
  obtain ⟨e, he⟩ | ⟨pa, attr, -, hk⟩ := withData_cases s va n store k
  · rw [he]; exact .raise e rfl
  · rw [hk]; exact h pa attr

theorem LeavesFresh.indexedGate {base index : RegNum} {k : Dword → Result}
    (h : ∀ va, LeavesFresh s.hiLoFresh (k va)) : LeavesFresh s.hiLoFresh (indexedGate s base index k) :=
  .needFpu (.needMips4 (.ite (h _) (.refused _)))

end Gates

/-! ## Updates that keep the mark -/

@[simp] theorem hiLoFresh_writeCp0 (s : State) (rd : BitVec 5) (v : Dword) :
    (s.writeCp0 rd v).hiLoFresh = s.hiLoFresh := by
  unfold State.writeCp0
  dsimp only
  split <;> rfl

@[simp] theorem hiLoFresh_moveFromCp0 (s : State) (rt : RegNum) (rd : BitVec 5) (f : Dword → Dword) :
    (s.moveFromCp0 rt rd f).hiLoFresh = s.hiLoFresh := by
  simp only [State.moveFromCp0, State.beforeCp0Read, State.hiLoFresh_drew, State.hiLoFresh_setReg]
  split <;> rfl

@[simp] theorem hiLoFresh_exceptionReturn (s : State) : (exceptionReturn s).hiLoFresh = s.hiLoFresh := by
  unfold exceptionReturn
  dsimp only
  split <;> rfl

@[simp] theorem hiLoFresh_cacheEffect (s : State) (op : BitVec 5) (pa : PAddr) :
    (s.cacheEffect op pa).hiLoFresh = s.hiLoFresh := by
  unfold State.cacheEffect
  split
  · rfl
  · split
    · simp [State.blurBlock]
    · rfl

@[simp] theorem hiLoFresh_writeFgrWord (s : State) (i : FprNum) (w : Word) :
    (s.writeFgrWord i w).hiLoFresh = s.hiLoFresh := by
  unfold State.writeFgrWord
  split
  · rfl
  · split <;> rfl

@[simp] theorem hiLoFresh_store (f : FpFormat) (fd : FprNum) (v : Dword) (s : State) :
    (f.store fd v s).hiLoFresh = s.hiLoFresh := by
  obtain ⟨p, n, h, -⟩ := f.store_eq fd v s
  rw [h]; rfl

/-! ## Ends -/

theorem LeavesFresh.writeReg (s : State) (rd : RegNum) (v : Dword) : LeavesFresh s.hiLoFresh (writeReg s rd v) :=
  .next (by simp)

/-- The end of an instruction whose result is a free value. -/
theorem LeavesFresh.setReg_drew (s : State) (rd : RegNum) (v : Dword) (n : Nat) :
    LeavesFresh s.hiLoFresh (.next ((s.setReg rd v).drew n).advance) := .next (by simp)

theorem LeavesFresh.writeWord (s : State) (valid : Bool) (rd : RegNum) (w : Word) :
    LeavesFresh s.hiLoFresh (writeWord s valid rd w) := .ite (.writeReg ..) (.setReg_drew ..)

theorem LeavesFresh.writeHiLoWords (s : State) (defined : Bool) (hi lo : Word) :
    LeavesFresh true (writeHiLoWords s defined hi lo) := .ite (.next rfl) (.next rfl)

/-- MTHI and MTLO: where the mark is not set they keep it. -/
theorem LeavesFresh.moveToHiLo (s : State) (hi lo hi' lo' : Dword) :
    LeavesFresh false (if s.hiLoFresh then .next (((s.setHiLo hi lo).drew 1).setHiLoFresh false).advance
      else .next (s.setHiLo hi' lo').advance) := by
  split
  · exact .next rfl
  · next h => exact .next (Bool.eq_false_iff.2 h)

theorem LeavesFresh.branchOn (h : u.hiLoFresh = b) (offset : BitVec 16) (taken likely : Bool) :
    LeavesFresh b (branchOn u offset taken likely) := by
  refine .needNoSlot (.next (Eq.trans ?_ h))
  split
  · rfl
  · split <;> rfl

theorem LeavesFresh.jumpOn (h : u.hiLoFresh = b) (target : Dword) (byRegister : Bool) :
    LeavesFresh b (jumpOn u target byRegister) := .needNoSlot (.next h)

theorem LeavesFresh.storeConditional (s : State) (va : Dword) (n : Nat) (rt : RegNum) :
    LeavesFresh s.hiLoFresh (storeConditional s va n rt) := by
  unfold Machine.storeConditional
  split
  · exact .raise _ rfl
  · refine .ite (.writeReg s rt 0) (.ite (.refused _) (.ite (.next (by simp [State.scDrew])) ?_))
    split
    · exact .raise _ rfl
    · exact .next (by simp [State.scDrew])

theorem LeavesFresh.readPerf (s : State) (rt : RegNum) (w : Option Word) :
    LeavesFresh s.hiLoFresh (readPerf s rt w) := by
  cases w with
  | none => exact .setReg_drew ..
  | some w => exact .writeReg ..

theorem LeavesFresh.tlbp (s : State) : LeavesFresh s.hiLoFresh (execTlbp s) := by
  refine .needCp0 ?_
  split
  · exact .next rfl
  · exact .next rfl
  · exact .raise _ rfl

theorem LeavesFresh.tlbr (s : State) : LeavesFresh s.hiLoFresh (execTlbr s) := by
  refine .needCp0 ?_
  split
  · exact .next rfl
  · exact .refused _

theorem LeavesFresh.cache (s : State) (base : RegNum) (op : BitVec 5) (offset : BitVec 16) :
    LeavesFresh s.hiLoFresh (execCache base op offset s) := by
  refine .needCp0 ?_
  split
  · exact .raise _ rfl
  · exact .ite (.refused _) (.ite (.refused _) (.ite (.raise _ rfl) (.next (by simp))))

theorem LeavesFresh.fpFinish {store : State → State} (h : ∀ t, (store t).hiLoFresh = t.hiLoFresh) (c : BitVec 6) :
    LeavesFresh s.hiLoFresh (fpFinish s c store) := .ite (.raise _ rfl) (.next (h _))

theorem LeavesFresh.finish (f : FpFormat) (s : State) (fd : FprNum) (r : FpResult) :
    LeavesFresh s.hiLoFresh (f.finish s fd r) := .fpFinish (hiLoFresh_store f fd r.value) r.cause

theorem LeavesFresh.fpMoveIf (f : FpFormat) (c : Bool) (s : State) (fs fd : FprNum) :
    LeavesFresh s.hiLoFresh (fpMoveIf f c s fs fd) := .needEvenFp (.next (hiLoFresh_store f fd _ s))

theorem LeavesFresh.fpToWord (f : FpFormat) (mode : Rounding) (s : State) (fs fd : FprNum) :
    LeavesFresh s.hiLoFresh (fpToWord f mode s fs fd) := .needEvenFp (.fpFinish (hiLoFresh_store .single fd _) _)

theorem LeavesFresh.fpToLong (f : FpFormat) (mode : Rounding) (s : State) (fs fd : FprNum) :
    LeavesFresh s.hiLoFresh (fpToLong f mode s fs fd) :=
  .need64 (.needEvenFp (.fpFinish (hiLoFresh_store .double fd _) _))

theorem LeavesFresh.fpCompare (f : FpFormat) (cond : BitVec 4) (s : State) (ft fs : FprNum) (cc : BitVec 3) :
    LeavesFresh s.hiLoFresh (fpCompare f cond s ft fs cc) :=
  .needCc (.needEvenFp (.fpFinish (State.hiLoFresh_setFcr31 · _) _))

theorem LeavesFresh.cfc1 (s : State) (rt : RegNum) (fs : FprNum) : LeavesFresh s.hiLoFresh (execCfc1 rt fs s) := by
  refine .needFpu ?_
  split
  · exact .writeReg ..
  · exact .setReg_drew ..

theorem LeavesFresh.ctc1 (s : State) (rt : RegNum) (fs : FprNum) : LeavesFresh s.hiLoFresh (execCtc1 rt fs s) := by
  refine .needFpu ?_
  split
  · exact .ite (.raise _ rfl) (.next rfl)
  · exact .ite (.next rfl) (.refused _)

/-! ## Every instruction -/

/-- Each case reads the instruction's meaning from the outside in: its gates, then its end. -/
theorem exec_leavesFresh (s : State) (i : Instr) : LeavesFresh (freshAfter s.hiLoFresh i) (exec i s) := by
  cases i with dsimp only [exec, freshAfter]
  -- the eight instructions that write the mark
  | mult | multu | div | divu => exact .writeHiLoWords ..
  | mfhi | mflo => exact .next rfl
  | mthi | mtlo => exact .moveToHiLo ..
  -- the rest of the multiplications and divisions
  | dmult | dmultu => exact .need64 (.next rfl)
  | ddiv | ddivu => exact .need64 (.ite (.next rfl) (.next rfl))
  | madd | maddu | msub | msubu | mul64 | macc | macchi | macchiu | maccu | msac | msachi | msachiu
  | msacu | mul | mulhi | mulhiu | muls | mulshi | mulshiu | mulsu | mulu => exact .next (by simp [State.setAcc])
  -- integer arithmetic, logic and shifts
  | addi | add | sub => exact .ite (.raise _ rfl) (.writeWord ..)
  | addiu | addu | subu | clo | clz | srl | sra | srlv | srav => exact .writeWord ..
  | slti | sltiu | andi | ori | xori | lui | slt | sltu | and | or | xor | nor | sll | sllv | ror | rorv =>
    exact .writeReg ..
  | daddi | dadd | dsub => exact .need64 (.ite (.raise _ rfl) (.writeReg ..))
  | daddiu | daddu | dsubu | dclo | dclz | dsll | dsrl | dsra | dsllv | dsrlv | dsrav | dsll32 | dsrl32 | dsra32
  | dror | dror32 | drorv => exact .need64 (.writeReg ..)
  | movn | movz => exact .needMips4 (.ite (.writeReg ..) (.next rfl))
  -- loads and stores
  | lb | lbu | lh | lhu | lw | lwl | lwr => exact .withData fun _ _ => .next (by simp)
  | lwu | ld | ldl | ldr => exact .need64 (.withData fun _ _ => .next (by simp))
  | sb | sh | sw | swl | swr => exact .withData fun _ _ => .next rfl
  | sd | sdl | sdr => exact .need64 (.withData fun _ _ => .next rfl)
  | ll => exact .withData fun _ _ => .ite (.next (by simp)) (.refused _)
  | lld => exact .need64 (.withData fun _ _ => .ite (.next (by simp)) (.refused _))
  | sc => exact .storeConditional ..
  | scd => exact .need64 (.storeConditional ..)
  -- jumps and branches
  | beq | bne | blez | bgtz | bltz | bgez | beql | bnel | blezl | bgtzl | bltzl | bgezl => exact .branchOn rfl ..
  | bltzal | bgezal | bltzall | bgezall => exact .branchOn (by simp) ..
  | j | jr => exact .jumpOn rfl ..
  | jal => exact .jumpOn (by simp) ..
  | jalr => exact .ite (.jumpOn (by simp) ..) (.jumpOn (by simp) ..)
  -- system calls, traps and the instructions that do nothing
  | syscall | breakpoint => exact .raise _ rfl
  | tge | tgeu | tlt | tltu | teq | tne | tgei | tgeiu | tlti | tltiu | teqi | tnei =>
    exact .ite (.raise _ rfl) (.next rfl)
  | ssnop | sync => exact .next rfl
  | pref => exact .needMips4 (.next rfl)
  -- coprocessor 0
  | cache => exact .cache ..
  | mfc0 | mtc0 => exact .needCp0 (.next (by simp))
  | dmfc0 => exact .needCp0 (.need64 (.ite (.writeReg ..) (.setReg_drew ..)))
  | dmtc0 => exact .needCp0 (.need64 (.ite (.next (by simp)) (.refused _)))
  | mfpc | mfps => exact .needCp0 (.readPerf ..)
  | mtpc | mtps => exact .needCp0 (.ite (.next rfl) (.ite (.next rfl) (.next rfl)))
  | tlbp => exact .tlbp s
  | tlbr => exact .tlbr s
  | tlbwi => exact .needCp0 (.ite (.ite (.next rfl) (.refused _)) (.refused _))
  | tlbwr => exact .needCp0 (.ite (.next rfl) (.refused _))
  | eret => exact .needCp0 (.needNoSlot (.next (by simp)))
  | wait => exact .needCp0 (.ite (.fault _) (.next rfl))
  | bc0f | bc0t | bc0fl | bc0tl => exact .needCp0 (.branchOn rfl ..)
  -- loads, stores, moves and branches of the FPU
  | lwc1 => exact .needFpu (.withData fun _ _ => .next (by simp))
  | ldc1 => exact .needFpu (.withData fun _ _ => .ite (.refused _) (.next rfl))
  | swc1 => exact .needFpu (.withData fun _ _ => .next rfl)
  | sdc1 => exact .needFpu (.withData fun _ _ => .ite (.next rfl) (.next rfl))
  | lwxc1 => exact .indexedGate fun _ => .withData fun _ _ => .next (by simp)
  | ldxc1 | luxc1 => exact .indexedGate fun _ => .withData fun _ _ => .ite (.refused _) (.next rfl)
  | swxc1 => exact .indexedGate fun _ => .withData fun _ _ => .next rfl
  | sdxc1 | suxc1 => exact .indexedGate fun _ => .withData fun _ _ => .ite (.next rfl) (.next rfl)
  | prefx => exact .needFpu (.needMips4 (.next rfl))
  | mfc1 => exact .needFpu (.writeReg ..)
  | mtc1 => exact .needFpu (.next (by simp))
  | dmfc1 => exact .needFpu (.need64 (.ite (.setReg_drew ..) (.writeReg ..)))
  | dmtc1 => exact .needFpu (.need64 (.ite (.refused _) (.next rfl)))
  | cfc1 => exact .cfc1 ..
  | ctc1 => exact .ctc1 ..
  | bc1f | bc1t | bc1fl | bc1tl => exact .needFpu (.needCc (.branchOn rfl ..))
  | movf => exact .needFpu (.needMips4 (.ite (.next rfl) (.writeReg ..)))
  | movt => exact .needFpu (.needMips4 (.ite (.writeReg ..) (.next rfl)))
  | fpMovS | fpMovD => exact .needFpu (.fpMoveIf ..)
  | fpMovfS | fpMovfD | fpMovtS | fpMovtD | fpMovnS | fpMovnD | fpMovzS | fpMovzD =>
    exact .needFpu (.needMips4Fp (.fpMoveIf ..))
  -- arithmetic, conversions and comparisons of the FPU
  | fpAddS | fpAddD | fpSubS | fpSubD | fpMulS | fpMulD | fpDivS | fpDivD | fpSqrtS | fpSqrtD | fpAbsS | fpAbsD | fpNegS
  | fpNegD | fpCvtSD | fpCvtSW | fpCvtDS | fpCvtDW => exact .needFpu (.needEvenFp (.finish ..))
  | fpRecipS | fpRecipD | fpRsqrtS | fpRsqrtD | fpMaddS | fpMaddD | fpMsubS | fpMsubD | fpNmaddS | fpNmaddD | fpNmsubS
  | fpNmsubD => exact .needFpu (.needMips4Fp (.needEvenFp (.finish ..)))
  | fpRoundLS | fpRoundLD | fpTruncLS | fpTruncLD | fpCeilLS | fpCeilLD | fpFloorLS | fpFloorLD | fpCvtLS | fpCvtLD =>
    exact .needFpu (.fpToLong ..)
  | fpRoundWS | fpRoundWD | fpTruncWS | fpTruncWD | fpCeilWS | fpCeilWD | fpFloorWS | fpFloorWD | fpCvtWS | fpCvtWD =>
    exact .needFpu (.fpToWord ..)
  | fpCvtSL | fpCvtDL => exact .needFpu (.ite (.needEvenFp (.finish ..)) (.raiseUnimplemented s))
  | fpCFS | fpCFD | fpCUnS | fpCUnD | fpCEqS | fpCEqD | fpCUeqS | fpCUeqD | fpCOltS | fpCOltD | fpCUltS | fpCUltD
  | fpCOleS | fpCOleD | fpCUleS | fpCUleD | fpCSfS | fpCSfD | fpCNgleS | fpCNgleD | fpCSeqS | fpCSeqD | fpCNglS
  | fpCNglD | fpCLtS | fpCLtD | fpCNgeS | fpCNgeD | fpCLeS | fpCLeD | fpCNgtS | fpCNgtD =>
    exact .needFpu (.fpCompare ..)

/-- Settles O21: the four moves, each by its end, and the mark that every answer of an instruction has. -/
theorem hiLoMoves : Obligations.HiLoMoves := by
  intro s rs rd
  have hmthi := computesHiLo_of_moveToHiLo (exec_mthi s rs)
  have hmtlo := computesHiLo_of_moveToHiLo (exec_mtlo s rs)
  rw [ite_self] at hmthi hmtlo
  refine ⟨computes_of_setReg_mark (exec_mfhi s rd), computes_of_setReg_mark (exec_mflo s rd), hmthi, hmtlo,
    fun i t ht => ?_⟩
  rw [(exec_leavesFresh s i).of_next t ht]
  exact ⟨freshAfter_of_sets, freshAfter_of_clears, freshAfter_of_neither⟩

end Sys2Proof.Machine
end

section
/-! O37 to O40: jumps and branches. Each instruction of this family is its gates, its link and its condition around
`branchOn` or `jumpOn`. One law for each of the two says what it does outside a delay slot and one that it is refused
inside; what remains is that the model's conditions and targets are those of the rules. -/

open Sys2Proof

namespace Sys2Proof.Machine

variable {s t : State}

/-! ## Ends (43_branch_jump.md R601, R603 to R605) -/

/-- Where execution continues is no part of what an instruction writes. -/
theorem GprEffect.resequence {rd : RegNum} {v : Dword} (h : GprEffect s t rd v) (pc npc : Dword)
    (inDelay jrSlot jrTarget : Bool) :
    GprEffect s { t with pc := pc, npc := npc, inDelay := inDelay, jrSlot := jrSlot, jrTarget := jrTarget } rd v where
  value := h.value
  regs := h.regs
  hiLo := h.hiLo
  fpRegs := h.fpRegs
  fcr31 := h.fcr31
  system := h.system.trans (.of rfl rfl rfl rfl rfl rfl rfl rfl rfl)
  memory := h.memory

section OutsideDelaySlot
variable {i : Instr} {link : RegNum} {offset : BitVec 16} {taken likely : Bool} (hslot : s.inDelay = false)
include hslot

/-- A branch that links nothing counts as one that links r0. -/
theorem branches_of_branchOn (h : exec i s = branchOn (s.setReg link s.linkValue) offset taken likely) :
    Branches i s taken likely offset link := by
  rw [branchOn, needNoSlot_of (by simp [hslot])] at h
  have heffect := gprEffect_setReg' s link s.linkValue
  refine ⟨_, h, ?_⟩
  cases taken
  case true => exact ⟨heffect.resequence .., by simp [ContinuesAt, State.branchTarget, branchTo]⟩
  case false =>
    cases likely
    case true => exact ⟨heffect.resequence .., by simp [ContinuesAt]⟩
    case false => exact ⟨heffect.resequence .., by simp [ContinuesAt]⟩

/-- The branches on CpCond. -/
theorem branches_of_needCp0 (hcp0 : s.status.cp0Usable = true)
    (h : exec i s = needCp0 s (branchOn s offset taken likely)) : Branches i s taken likely offset 0 :=
  branches_of_branchOn hslot (h.trans (needCp0_of hcp0 _))

/-- The branches on a condition code. -/
theorem branches_of_needCc {cc : BitVec 3} (hcu1 : s.status.cu1 = true) (hcc : cc = 0 ∨ s.status.mips4 = true)
    (h : exec i s = needFpu s (needCc s cc (branchOn s offset taken likely))) : Branches i s taken likely offset 0 :=
  branches_of_branchOn hslot (h.trans ((needFpu_of hcu1 _).trans (needCc_of hcc _)))

theorem jumps_of_jumpOn_drew {target v : Dword} {n : Nat} {byRegister : Bool}
    (h : exec i s = jumpOn ((s.setReg link v).drew n) target byRegister) : Jumps i s target link v :=
  ⟨_, h.trans (needNoSlot_of (by simp [hslot]) _), (gprEffect_setReg s link v n).resequence .., by simp [ContinuesAt]⟩

/-- A jump that links nothing counts as one that links r0. -/
theorem jumps_of_jumpOn {target v : Dword} {byRegister : Bool}
    (h : exec i s = jumpOn (s.setReg link v) target byRegister) : Jumps i s target link v :=
  jumps_of_jumpOn_drew hslot (n := 0) h

end OutsideDelaySlot

section InDelaySlot
variable (hslot : s.inDelay = true)
include hslot

theorem branchOn_inDelay (offset : BitVec 16) (taken likely : Bool) :
    branchOn s offset taken likely = .refused .branchInDelaySlot := needNoSlot_not hslot _

theorem branchLinkOn_inDelay (offset : BitVec 16) (taken likely : Bool) :
    branchLinkOn s offset taken likely = .refused .branchInDelaySlot := branchOn_inDelay (by simp [hslot]) ..

theorem jumpOn_inDelay (target : Dword) (byRegister : Bool) :
    jumpOn s target byRegister = .refused .branchInDelaySlot := needNoSlot_not hslot _

theorem jalr_inDelay (rs rd : RegNum) : exec (.jalr rs rd) s = .refused .branchInDelaySlot := by
  rw [exec_jalr, execJalr]
  split
  · exact jumpOn_inDelay (by simp [hslot]) ..
  · exact jumpOn_inDelay (by simp [hslot]) ..

end InDelaySlot

/-! ## Conditions (R608 to R623)

The sign bit and a comparison with zero decide every order with zero. -/

theorem decide_toInt_neg (v : Dword) : decide (v.toInt < 0) = v.msb := BitVec.msb_eq_toInt.symm

theorem decide_toInt_nonneg (v : Dword) : decide (0 ≤ v.toInt) = !v.msb := by
  rw [← decide_toInt_neg, ← decide_not, decide_eq_decide, not_lt]

theorem decide_toInt_nonpos (v : Dword) : decide (v.toInt ≤ 0) = (v.msb || v == 0) := by
  have hzero : v.toInt = 0 ↔ v = 0 := BitVec.toInt_inj (y := 0#64)
  rw [← decide_toInt_neg, beq_eq_decide, ← Bool.decide_or, decide_eq_decide, ← hzero, le_iff_lt_or_eq]

theorem decide_toInt_pos (v : Dword) : decide (0 < v.toInt) = (!v.msb && v != 0) := by
  rw [bne, ← Bool.not_or, ← decide_toInt_nonpos, ← decide_not, decide_eq_decide, not_le]

/-- Settles O37: each condition of the rules is the one that the model tests, and each branch ends in `branchOn`. -/
theorem conditionalBranches : Obligations.ConditionalBranches := by
  intro s rs rt offset hslot
  simp only [ne_eq, decide_not, decide_toInt_neg, decide_toInt_nonneg, decide_toInt_nonpos, decide_toInt_pos]
  have branch {i : Instr} {link : RegNum} {taken likely : Bool} :=
    branches_of_branchOn hslot (i := i) (link := link) (offset := offset) (taken := taken) (likely := likely)
  exact ⟨branch (exec_beq ..), branch (exec_bne ..), branch (exec_blez ..), branch (exec_bgtz ..),
    branch (exec_bltz ..), branch (exec_bgez ..), branch (exec_bltzal ..), branch (exec_bgezal ..),
    branch (exec_beql ..), branch (exec_bnel ..), branch (exec_blezl ..), branch (exec_bgtzl ..),
    branch (exec_bltzl ..), branch (exec_bgezl ..), branch (exec_bltzall ..), branch (exec_bgezall ..)⟩

/-! ## Jumps (R624 to R627) -/

theorem getElem_regionMask {k : Nat} (hk : k < 64) : (~~~0xFFFFFFF#64)[k] = decide (28 ≤ k) := by
  have hlow : 0xFFFFFFF#64 = (BitVec.allOnes 28).setWidth 64 := rfl
  rw [BitVec.getElem_not, hlow, BitVec.getElem_setWidth, BitVec.getLsbD_allOnes, ← decide_not, decide_eq_decide, not_lt]

/-- The region of 256 MB that holds `p`, with a target field in it, bit by bit. -/
theorem region_append_target (p : Dword) (target : BitVec 26) :
    p.extractLsb' 28 36 ++ target ++ 0#2 = p &&& ~~~0xFFFFFFF#64 ||| (target.setWidth 64 <<< 2) := by
  ext k hk
  rw [BitVec.getElem_or, BitVec.getElem_and, getElem_regionMask]
  grind

/-- Settles O38: the two targets of the region by `region_append_target`, each jump by its `jumpOn`; JALR splits on
whether it links its own source. -/
theorem jumpInstructions : Obligations.JumpInstructions := by
  intro s rs rd target hslot
  rw [← region_append_target]
  refine ⟨jumps_of_jumpOn hslot (exec_j s target), jumps_of_jumpOn hslot (exec_jal s target),
    jumps_of_jumpOn hslot (exec_jr s rs), fun hne => ?_, fun heq => ?_⟩
  · exact jumps_of_jumpOn hslot ((exec_jalr s rs rd).trans (if_neg hne))
  · exact jumps_of_jumpOn_drew hslot ((exec_jalr s rs rd).trans (if_pos heq))

/-! ## Delay slots and coprocessor conditions (R605, R628 to R632, 46_fpu_move_ls.md R818 to R822) -/

/-- Settles O39: what an open gate leaves of each instruction is refused by `needNoSlot`, also after a link. -/
theorem controlTransferInDelaySlotStops : Obligations.ControlTransferInDelaySlotStops := by
  intro s rs rt rd cc offset target hslot
  have branch := branchOn_inDelay hslot
  have linking := branchLinkOn_inDelay hslot
  simp only [List.forall_mem_cons]
  refine ⟨?_, fun hcp0 => ?_, fun hcu1 hcc => ?_⟩
  · exact ⟨branch .., branch .., branch .., branch .., branch .., branch .., branch .., branch .., branch ..,
      branch .., branch .., branch .., linking .., linking .., linking .., linking .., jumpOn_inDelay hslot ..,
      jumpOn_inDelay (by simp [hslot]) .., jumpOn_inDelay hslot .., jalr_inDelay hslot rs rd, List.forall_mem_nil _⟩
  · have usable := needCp0_of hcp0
    exact ⟨(usable _).trans (branch ..), (usable _).trans (branch ..), (usable _).trans (branch ..),
      (usable _).trans (branch ..), (usable _).trans (needNoSlot_not hslot _), List.forall_mem_nil _⟩
  · have usable (k : Result) := (needFpu_of hcu1 _).trans (needCc_of hcc k)
    exact ⟨(usable _).trans (branch ..), (usable _).trans (branch ..), (usable _).trans (branch ..),
      (usable _).trans (branch ..), List.forall_mem_nil _⟩

/-- Settles O40: past their gates these are branches like the others. -/
theorem conditionBranches : Obligations.ConditionBranches := by
  intro s cc offset hslot
  refine ⟨fun hcp0 => ?_, fun hcu1 hcc => ?_⟩
  · have branch {i : Instr} {taken likely : Bool} :=
      branches_of_needCp0 hslot (i := i) (offset := offset) (taken := taken) (likely := likely) hcp0
    exact ⟨branch (exec_bc0f ..), branch (exec_bc0t ..), branch (exec_bc0fl ..), branch (exec_bc0tl ..)⟩
  · have branch {i : Instr} {taken likely : Bool} :=
      branches_of_needCc hslot (i := i) (offset := offset) (taken := taken) (likely := likely) hcu1 hcc
    exact ⟨branch (exec_bc1f ..), branch (exec_bc1t ..), branch (exec_bc1fl ..), branch (exec_bc1tl ..)⟩

end Sys2Proof.Machine
end

section
/-! O24, O25 and O41: traps, system calls, breakpoints, the no-operations and CACHE. A trap is `trapIf` of a test that
is the order or equality of its rule; an exception entry is read off field by field; CACHE past its gate and its address
is a chain of tests on the operation, and what a listed operation blurs is said once for a tag and once for a block. -/

open Sys2Proof

namespace Sys2Proof.Machine

variable {s : State}

/-! ## Conditional traps (44_special_trap.md R655 to R667) -/

theorem traps_of_trapIf {i : Instr} {c : Bool} {p : Prop} [Decidable p] (hi : exec i s = trapIf s c)
    (hc : c = true ↔ p) : if p then Raises i s .trap else DoesNothing i s := by
  split
  · next hp => exact hi.trans (if_pos (hc.2 hp))
  · next hp => exact doesNothing_of_advance (hi.trans (if_neg (mt hc.1 hp)))

theorem slt_iff (a b : Dword) : a.slt b = true ↔ a.toInt < b.toInt := by rw [BitVec.slt_eq_decide, decide_eq_true_iff]

theorem ult_iff (a b : Dword) : a.ult b = true ↔ a.toNat < b.toNat := by rw [BitVec.ult_eq_decide, decide_eq_true_iff]

theorem not_slt_iff (a b : Dword) : (!a.slt b) = true ↔ b.toInt ≤ a.toInt := by
  rw [Bool.not_eq_true', ← Bool.not_eq_true, slt_iff, not_lt]

theorem not_ult_iff (a b : Dword) : (!a.ult b) = true ↔ b.toNat ≤ a.toNat := by
  rw [Bool.not_eq_true', ← Bool.not_eq_true, ult_iff, not_lt]

/-- Settles O24: each trap is `trapIf` of its condition, an immediate compared as its sign extension. -/
theorem conditionalTraps : Obligations.ConditionalTraps := by
  intro s rs rt imm code
  rw [← toInt_simm]
  exact ⟨traps_of_trapIf (exec_tge s rs rt code) (not_slt_iff _ _),
    traps_of_trapIf (exec_tgeu s rs rt code) (not_ult_iff _ _),
    traps_of_trapIf (exec_tlt s rs rt code) (slt_iff _ _), traps_of_trapIf (exec_tltu s rs rt code) (ult_iff _ _),
    traps_of_trapIf (exec_teq s rs rt code) beq_iff_eq, traps_of_trapIf (exec_tne s rs rt code) bne_iff_ne,
    traps_of_trapIf (exec_tgei s rs imm) (not_slt_iff _ _), traps_of_trapIf (exec_tgeiu s rs imm) (not_ult_iff _ _),
    traps_of_trapIf (exec_tlti s rs imm) (slt_iff _ _), traps_of_trapIf (exec_tltiu s rs imm) (ult_iff _ _),
    traps_of_trapIf (exec_teqi s rs imm) beq_iff_eq, traps_of_trapIf (exec_tnei s rs imm) bne_iff_ne⟩

/-! ## System calls, breakpoints and codes (R650, R651; 60_exceptions.md R1002, R1012, R1013) -/

@[simp] theorem takeException_excCode (e : Exc) (s : State) : (takeException e s).cp0.cause.excCode = e.code := rfl

@[simp] theorem takeException_ce (e : Exc) (s : State) : (takeException e s).cp0.cause.ce = e.unit := rfl

/-- The general vector is the one that an offset of 0x180 selects. -/
theorem Status.vectorBase_add_general (st : Status) :
    st.vectorBase + 0x180 = if st.bev then 0xFFFFFFFFBFC00380 else 0xFFFFFFFF80000180 := by
  unfold Status.vectorBase
  split
  · rfl
  · rfl

theorem takeException_syscall_pc (s : State) :
    (takeException .syscall s).pc = if s.status.bev then 0xFFFFFFFFBFC00380 else 0xFFFFFFFF80000180 :=
  s.status.vectorBase_add_general

/-- Settles O25: the two entries differ in nothing but their code, and the codes are those of the table. -/
theorem systemCallBreakpointAndCodes : Obligations.SystemCallBreakpointAndCodes := by
  refine ⟨fun s code => ?_, fun va m u => ?_⟩
  · exact ⟨_, _, exec_syscall s code, rfl, takeException_excCode .syscall s, exec_breakpoint s code, rfl,
      takeException_excCode .breakpoint s, takeException_ce .syscall s, takeException_ce .breakpoint s,
      takeException_exl .syscall s, takeException_exl .breakpoint s, rfl, takeException_syscall_pc s⟩
  · exact ⟨rfl, rfl, rfl, rfl, rfl, rfl, rfl, rfl, rfl, rfl, rfl, rfl, rfl, rfl, rfl, rfl, rfl, rfl, rfl, rfl⟩

/-! ## The operations of CACHE (45_cp0_system.md R741) -/

theorem isCacheOp_iff (op : BitVec 5) : isCacheOp op = true ↔ op ∈ ([0x00, 0x01, 0x04, 0x05, 0x08, 0x09, 0x0D, 0x10,
    0x11, 0x14, 0x15, 0x19, 0x1C, 0x1D] : List (BitVec 5)) := by
  simp [isCacheOp, or_assoc]

theorem isCacheFill_iff (op : BitVec 5) : isCacheFill op = true ↔ op ∈ ([0x14, 0x1C, 0x1D] : List (BitVec 5)) := by
  simp [isCacheFill, or_assoc]

theorem State.cacheEffect_tag (s : State) {op : BitVec 5} (pa : PAddr)
    (h : op ∈ ([0x04, 0x05] : List (BitVec 5))) : s.cacheEffect op pa = s.blurTag :=
  if_pos (by simpa using h)

theorem State.cacheEffect_dirty (s : State) (pa : PAddr) : s.cacheEffect 0x0D pa = s.blurBlock pa := rfl

theorem State.cacheEffect_none (s : State) {op : BitVec 5} (pa : PAddr)
    (h : op ∉ ([0x04, 0x05, 0x0D] : List (BitVec 5))) : s.cacheEffect op pa = s := by
  simp only [List.mem_cons, List.not_mem_nil, or_false, not_or] at h
  obtain ⟨h4, h5, hD⟩ := h
  rw [cacheEffect, if_neg (by simpa using And.intro h4 h5), if_neg hD]

/-! ## What an operation leaves unspecified (R742, log 15) -/

theorem cp0Effect_blurTag (s : State) : Cp0Effect s s.blurTag.advance
    { s.cp0 with tagLo := low (s.free 0), parityError := (s.free 1).setWidth 8 } where
  cp0 := rfl
  tlb := rfl
  link := .refl s
  world := ⟨rfl, rfl, rfl, rfl, rfl⟩
  regs := .refl s
  hiLo := .refl s
  fpRegs := .refl s
  fcr31 := rfl
  memory := .refl s

/-- The address of the 32-byte block that holds an address. -/
def cacheBlock (pa : PAddr) : PAddr := pa.extractLsb' 5 31 ++ 0#5

theorem State.blurBlock_eq (s : State) (pa : PAddr) : s.blurBlock pa =
    ((((s.memWrite (cacheBlock pa) 8 (s.free 0)).memWrite (cacheBlock pa + 8#36) 8 (s.free 1)).memWrite
      (cacheBlock pa + 16#36) 8 (s.free 2)).memWrite (cacheBlock pa + 24#36) 8 (s.free 3)).drew 4 := rfl

theorem cacheBlock_toNat (pa : PAddr) : (cacheBlock pa).toNat = 32 * (pa.toNat / 32) := by
  have hpa := pa.isLt
  rw [cacheBlock, BitVec.toNat_append, BitVec.extractLsb'_toNat, Nat.shiftRight_eq_div_pow, Nat.shiftLeft_eq,
    BitVec.toNat_ofNat, Nat.zero_mod, Nat.or_zero]
  omega

/-- A block does not reach past the end of the address space. -/
theorem cacheBlock_add_toNat (pa : PAddr) {k : Nat} (hk : k < 32) :
    (cacheBlock pa + BitVec.ofNat 36 k).toNat = 32 * (pa.toNat / 32) + k := by
  have hpa := pa.isLt
  rw [BitVec.toNat_add, cacheBlock_toNat, BitVec.toNat_ofNat]
  omega

theorem sameMemoryBut_blurBlock (s : State) (pa : PAddr) :
    SameMemoryBut s (s.blurBlock pa) (32 * (pa.toNat / 32)) 32 := by
  intro x hx
  have h0 := cacheBlock_toNat pa
  have h8 := cacheBlock_add_toNat pa (k := 8) (by decide)
  have h16 := cacheBlock_add_toNat pa (k := 16) (by decide)
  have h24 := cacheBlock_add_toNat pa (k := 24) (by decide)
  rw [State.blurBlock_eq, State.byteAt_drew, State.byteAt_memWrite_outside, State.byteAt_memWrite_outside,
    State.byteAt_memWrite_outside, State.byteAt_memWrite_outside] <;> omega

theorem sameSystem_blurBlock (s : State) (pa : PAddr) : SameSystem s (s.blurBlock pa) := by
  rw [State.blurBlock_eq]
  apply SameSystem.of <;> simp

theorem sameRegs_blurBlock (s : State) (pa : PAddr) : SameRegs s (s.blurBlock pa) := fun r => by
  simp [State.blurBlock_eq]

theorem sameHiLo_blurBlock (s : State) (pa : PAddr) : SameHiLo s (s.blurBlock pa) := by
  constructor <;> simp [State.blurBlock_eq]

theorem sameFpRegs_blurBlock (s : State) (pa : PAddr) : SameFpRegs s (s.blurBlock pa) := fun i => by
  simp [State.blurBlock_eq]

@[simp] theorem State.fcr31_blurBlock (s : State) (pa : PAddr) : (s.blurBlock pa).fcr31 = s.fcr31 := by
  simp [State.blurBlock_eq]

@[simp] theorem State.npc_blurBlock (s : State) (pa : PAddr) : (s.blurBlock pa).npc = s.npc := by
  simp [State.blurBlock_eq]

/-! ## CACHE (R740 to R742) -/

section Cache
variable {base : RegNum} {op : BitVec 5} {offset : BitVec 16} {pa : PAddr} {attr : CacheAttr}
  (hcp0 : s.status.cp0Usable = true)
include hcp0

theorem raises_cache_of_error {e : Exc} (ha : s.dataAddr (s.effAddr base offset) 1 false = .error e) :
    Raises (.cache base op offset) s e := by
  rw [Raises, exec_cache, execCache, needCp0_of hcp0, ha]
  rfl

variable (ha : s.dataAddr (s.effAddr base offset) 1 false = .ok (pa, attr))
include ha

/-- The tests that follow the address, in the order of the model. -/
theorem exec_cache_of_ok : exec (.cache base op offset) s =
    if !isCacheOp op then .refused .cacheOpUndefined
    else if !isCacheable attr then .refused .cacheOnUncached
    else if s.inputs.busErrData && isCacheFill op then raise .busErrorData s
    else .next (s.cacheEffect op pa).advance := by
  rw [exec_cache, execCache, needCp0_of hcp0, ha]

theorem exec_cache_unlisted (hop : isCacheOp op = false) :
    exec (.cache base op offset) s = .refused .cacheOpUndefined := by
  rw [exec_cache_of_ok hcp0 ha, if_pos (by simp [hop])]

variable (hop : isCacheOp op = true)
include hop

theorem exec_cache_uncached (hattr : isCacheable attr = false) :
    exec (.cache base op offset) s = .refused .cacheOnUncached := by
  rw [exec_cache_of_ok hcp0 ha, if_neg (by simp [hop]), if_pos (by simp [hattr])]

variable (hattr : isCacheable attr = true)
include hattr

theorem raises_cache_busError (hbus : s.inputs.busErrData = true) (hfill : isCacheFill op = true) :
    Raises (.cache base op offset) s .busErrorData := by
  rw [Raises, exec_cache_of_ok hcp0 ha, if_neg (by simp [hop]), if_neg (by simp [hattr]),
    if_pos (by simp [hbus, hfill])]
  rfl

theorem exec_cache_completes (hbus : s.inputs.busErrData = false ∨ isCacheFill op = false) :
    exec (.cache base op offset) s = .next (s.cacheEffect op pa).advance := by
  rw [exec_cache_of_ok hcp0 ha, if_neg (by simp [hop]), if_neg (by simp [hattr]),
    if_neg (by rw [Bool.and_eq_true]; rcases hbus with h | h <;> simp [h])]

end Cache

/-- Settles O41: the no-operations are `advance` behind their gates; the outcomes of CACHE are those of its tests, and
what it changes where it completes is `cacheEffect`. -/
theorem noOperationsAndCache : Obligations.NoOperationsAndCache := by
  intro s base index hint stype op offset pa attr va listed
  refine ⟨doesNothing_of_advance (exec_sync s stype), doesNothing_of_advance (exec_ssnop s),
    fun hm => doesNothing_of_advance ((exec_pref s base hint offset).trans (needMips4_of hm _)),
    fun hm hcu1 => doesNothing_of_advance
      ((exec_prefx s base index hint).trans ((needFpu_of hcu1 _).trans (needMips4_of hm _))),
    fun hcp0 e he => raises_cache_of_error hcp0 he, fun hcp0 ha => ?_⟩
  rw [← isCacheFill_iff, ← isCacheOp_iff, Bool.not_eq_true, Bool.not_eq_true]
  refine ⟨exec_cache_unlisted hcp0 ha, exec_cache_uncached hcp0 ha, fun hop hattr =>
    ⟨raises_cache_busError hcp0 ha hop hattr, fun hbus => ?_⟩⟩
  have hdone := exec_cache_completes hcp0 ha hop hattr hbus
  refine ⟨fun hnone => ?_, fun htag => ?_, fun hdirty _ => ?_⟩
  · rw [s.cacheEffect_none pa hnone] at hdone
    exact doesNothing_of_advance hdone
  · rw [s.cacheEffect_tag pa htag] at hdone
    exact ⟨_, _, _, hdone, advanced_advance rfl, cp0Effect_blurTag s⟩
  · subst hdirty
    rw [s.cacheEffect_dirty pa] at hdone
    exact ⟨_, hdone, advanced_advance (s.npc_blurBlock pa), sameRegs_blurBlock s pa, sameHiLo_blurBlock s pa,
      sameFpRegs_blurBlock s pa, s.fcr31_blurBlock pa, (sameSystem_blurBlock s pa).trans (sameSystem_advance _),
      sameMemoryBut_blurBlock s pa⟩

end Sys2Proof.Machine
end

section
/-! O42 and O43: what a move from CP0 reads and what a move to CP0 writes. A word and the row of its fields are compared
as numbers, so that the widths at which they are nested do not matter. A write is `maskedWrite` by the register's mask,
and acts on each field by itself; the registers are then taken one by one. -/

open Sys2Proof
open BitVec (allOnes)

namespace Sys2Proof.Machine

variable {s : State} {rt rd : RegNum}

/-! ## The words of the registers (45_cp0_system.md R701; 10_state.md R11 to R34) -/

theorem zext_eq_of_toNat {w : Word} {v : Dword} (h : w.toNat = v.toNat) : w.setWidth 64 = v :=
  BitVec.eq_of_toNat_eq ((BitVec.toNat_setWidth_of_le (by decide)).trans h)

/-- Two words that end in the same field are the same number when what is above the field is. -/
theorem toNat_append_congr {a b n : Nat} {x : BitVec a} {x' : BitVec n} (h : x.toNat = x'.toNat) (y : BitVec b) :
    (x ++ y).toNat = (x' ++ y).toNat := by
  rw [BitVec.toNat_append, BitVec.toNat_append, h]

theorem toNat_zero_append {a : Nat} (k : Nat) (x : BitVec a) : x.toNat = (0#k ++ x).toNat := by
  simp [BitVec.toNat_append]

theorem toNat_zero_append_congr {a k n : Nat} (x : BitVec a) : (0#k ++ x).toNat = (0#n ++ x).toNat :=
  toNat_append_congr rfl x

theorem IndexReg.zext_toWord (x : IndexReg) : x.toWord.setWidth 64 = 0#32 ++ BitVec.ofBool x.p ++ 0#25 ++ x.index := by
  apply zext_eq_of_toNat
  iterate 2 apply toNat_append_congr
  exact toNat_zero_append 32 _

theorem pageMaskWord_zext (m : BitVec 18) : (pageMaskWord m).setWidth 64 = 0#33 ++ m ++ 0#13 :=
  zext_eq_of_toNat (toNat_append_congr (toNat_zero_append_congr m) _)

theorem Cause.zext_toWord (x : Cause) (ip : BitVec 8) : (x.toWord ip).setWidth 64 =
    0#32 ++ BitVec.ofBool x.bd ++ 0#1 ++ x.ce ++ 0#12 ++ ip ++ 0#1 ++ x.excCode ++ 0#2 := by
  apply zext_eq_of_toNat
  iterate 7 apply toNat_append_congr
  exact toNat_zero_append 32 _

theorem pridWord_zext : pridWord.setWidth 64 = 0#48 ++ Config.pridImp ++ Config.pridRev := rfl

/-- The constant bits 14:3 of Config, as one field and as its four. -/
theorem toNat_append_configBits {a : Nat} (x : BitVec a) :
    (x ++ 0b110011011110#12).toNat = (x ++ 0b110#3 ++ 0b011#3 ++ 0b011#3 ++ 0b110#3).toNat := by
  simp [BitVec.toNat_append, Nat.shiftLeft_or_distrib, ← Nat.shiftLeft_add, Nat.or_assoc]

theorem ConfigReg.zext_toWord (x : ConfigReg) (p : Pins) : (x.toWord p).setWidth 64 =
    0#33 ++ p.divMode ++ x.ep ++ x.em ++ 0b11#2 ++ (if p.busMode64 then 0b00#2 else 0b01#2) ++ 0b10#2 ++
      BitVec.ofBool p.bigEndian ++ 0b110#3 ++ 0b011#3 ++ 0b011#3 ++ 0b110#3 ++ x.k0 := by
  apply zext_eq_of_toNat
  apply toNat_append_congr
  refine Eq.trans ?_ (toNat_append_configBits _)
  iterate 7 apply toNat_append_congr
  exact toNat_zero_append_congr p.divMode

theorem WatchLo.zext_toWord (x : WatchLo) : x.toWord.setWidth 64 =
    0#32 ++ x.paddr0 ++ 0#1 ++ BitVec.ofBool x.r ++ BitVec.ofBool x.w := by
  apply zext_eq_of_toNat
  iterate 3 apply toNat_append_congr
  exact toNat_zero_append 32 _

theorem cacheErrorWord_zext (x : BitVec 7) : (cacheErrorWord x).setWidth 64 = 0#32 ++ x ++ 0#25 :=
  zext_eq_of_toNat (toNat_append_congr (toNat_zero_append 32 x) _)

/-- Random, Wired, WatchHi and Parity Error: one field under zeros. -/
theorem zero_append_zext {k n : Nat} (h : k + n = 32) (h' : 32 + k + n = 64) (x : BitVec n) :
    ((0#k ++ x).cast h).setWidth 64 = (0#(32 + k) ++ x).cast h' :=
  zext_eq_of_toNat (by simp [BitVec.toNat_append])

theorem word_zext (w : Word) : w.setWidth 64 = 0#32 ++ w := zext_eq_of_toNat (toNat_zero_append 32 w)

/-! ## Reads (R702, R704) -/

/-- A word whose sign bit is 0 is its number. -/
theorem sext_zero_append (x : BitVec 6) : sext (0#26 ++ x) = BitVec.ofNat 64 x.toNat := by
  have hmsb : (0#26 ++ x : Word).msb = false := BitVec.msb_append.trans rfl
  rw [sext, BitVec.signExtend_eq_setWidth_of_msb_false hmsb]
  apply BitVec.eq_of_toNat_eq
  rw [BitVec.toNat_setWidth_of_le (by decide), ← toNat_zero_append 26 x, BitVec.toNat_ofNat, Nat.mod_eq_of_lt]
  omega

theorem low_setWidth (w : Word) : low (w.setWidth 64) = w := by simp [low]

theorem moveFromCp0_of_ne (h : rd ≠ 1) (f : Dword → Dword) : s.moveFromCp0 rt rd f =
    (s.setReg rt (f (s.readCp0 rd))).drew (if isReservedCp0 rd then 1 else 0) := by
  rw [State.moveFromCp0, State.beforeCp0Read, if_neg h]

theorem computes_mfc0 (hcp0 : s.status.cp0Usable = true) (h : rd ≠ 1) :
    Computes (.mfc0 rt rd) s rt (sext (low (s.readCp0 rd))) := by
  have hexec : exec (.mfc0 rt rd) s = .next (s.moveFromCp0 rt rd fun v => sext (low v)).advance := needCp0_of hcp0 _
  rw [moveFromCp0_of_ne h] at hexec
  exact computes_of_drew hexec

/-- A draw of Random stays below 48, also where Wired is above 47 (10_state.md R12, log 11). -/
theorem drawRandom_bounds (wired : BitVec 6) (free : Dword) :
    (drawRandom wired free).toNat ≤ 47 ∧ (wired.toNat ≤ 47 → wired.toNat ≤ (drawRandom wired free).toNat) := by
  unfold drawRandom
  split
  · next h =>
    have hmod := Nat.mod_lt free.toNat (show 0 < 48 - wired.toNat by omega)
    rw [BitVec.toNat_ofNat, Nat.mod_eq_of_lt (by omega)]
    omega
  · next h =>
    have hmod := Nat.mod_lt free.toNat (show 0 < 48 by decide)
    rw [BitVec.toNat_ofNat, Nat.mod_eq_of_lt (by omega)]
    omega

/-- MFC0 of Random: the register moves on by a draw and is then read. -/
theorem exec_mfc0_random (hcp0 : s.status.cp0Usable = true) : exec (.mfc0 rt 1) s =
    .next ((s.freshRandom.setReg rt (BitVec.ofNat 64 s.freshRandom.cp0.random.toNat)).drew 0).advance := by
  rw [← sext_zero_append, ← low_setWidth (0#26 ++ s.freshRandom.cp0.random)]
  exact needCp0_of hcp0 _

theorem isCp0Dword_iff (rd : RegNum) : isCp0Dword rd = true ↔ rd ∈ ([2, 3, 4, 8, 10, 14, 20, 30] : List RegNum) := by
  simp [isCp0Dword, or_assoc]

section Doubleword
variable (hcp0 : s.status.cp0Usable = true) (h64 : s.status.ops64 = true)
include hcp0 h64

theorem computes_dmfc0 (h : isCp0Dword rd = true) : Computes (.dmfc0 rt rd) s rt (s.readCp0 rd) := by
  refine computes_of_writeReg ?_
  rw [exec_dmfc0, execDmfc0, needCp0_of hcp0, need64_of h64, if_pos h]
  rfl

theorem computes_dmfc0_free (h : isCp0Dword rd = false) : Computes (.dmfc0 rt rd) s rt (s.free 0) := by
  refine computes_of_drew (n := 1) ?_
  rw [exec_dmfc0, execDmfc0, needCp0_of hcp0, need64_of h64, if_neg (by simp [h])]

end Doubleword

/-- Settles O42: a read is one general register written, after a draw where it is Random; the words are their fields. -/
theorem cp0Reads : Obligations.Cp0Reads := by
  refine ⟨fun s rt rd hcp0 => ⟨fun h _ => computes_mfc0 hcp0 h, fun h => ⟨_, computes_mfc0 hcp0 ?_⟩, ?_, fun h64 => ?_⟩,
    fun s => ?_⟩
  · rintro rfl
    exact absurd h (by decide)
  · have heffect := gprEffect_setReg s.freshRandom rt (BitVec.ofNat 64 s.freshRandom.cp0.random.toNat) 0
    obtain ⟨hle, hwired⟩ := drawRandom_bounds s.cp0.wired (s.free 0)
    refine ⟨_, _, exec_mfc0_random hcp0, advanced_advance ?_, heffect.value, hle, hwired, ?_, heffect.regs,
      heffect.hiLo, heffect.fpRegs, heffect.fcr31, heffect.system.tlb, heffect.system.link, ?_, heffect.memory⟩
    · simp [State.freshRandom]
    · rw [heffect.system.cp0, BitVec.ofNat_toNat, BitVec.setWidth_eq]
      rfl
    · obtain ⟨hrun, hpins, hinputs, henv, hraised⟩ := heffect.system.world
      exact ⟨hrun, hpins, hinputs, henv, hraised⟩
  · rw [← isCp0Dword_iff, Bool.not_eq_true]
    exact ⟨computes_dmfc0 hcp0 h64, fun h => ⟨_, computes_dmfc0_free hcp0 h64 h⟩⟩
  · refine ⟨IndexReg.zext_toWord _, zero_append_zext (k := 26) rfl rfl _, ?_, rfl, pageMaskWord_zext _,
      zero_append_zext (k := 26) rfl rfl _, rfl, word_zext _, rfl, word_zext _, Cause.zext_toWord _ _, rfl,
      pridWord_zext, ConfigReg.zext_toWord _ _, word_zext _, WatchLo.zext_toWord _,
      zero_append_zext (k := 28) rfl rfl _, rfl, fun _ => rfl, word_zext _, zero_append_zext (k := 24) rfl rfl _,
      cacheErrorWord_zext _, word_zext _, word_zext _, rfl⟩
    intro p hp
    fin_cases hp
    · rfl
    · rfl

/-! ## Software writes -/

/-- A software write of a register: the bits of `m` receive those of `v`, the others keep those of `x`. -/
def maskedWrite {n : Nat} (m x v : BitVec n) : BitVec n := (x &&& ~~~m) ||| (v &&& m)

theorem maskedWrite_allOnes {n : Nat} (x v : BitVec n) : maskedWrite (BitVec.allOnes n) x v = v := by
  simp [maskedWrite]

theorem maskedWrite_zero {n : Nat} (x v : BitVec n) : maskedWrite 0#n x v = x := by
  simp [maskedWrite]

/-- A write acts on each field by itself. -/
theorem maskedWrite_append {a b n : Nat} (m₁ x₁ : BitVec a) (m₂ x₂ : BitVec b) (v : BitVec n) (k : Nat) :
    maskedWrite (m₁ ++ m₂) (x₁ ++ x₂) (v.extractLsb' k (a + b)) =
      maskedWrite m₁ x₁ (v.extractLsb' (k + b) a) ++ maskedWrite m₂ x₂ (v.extractLsb' k b) := by
  have hv : v.extractLsb' k (a + b) = v.extractLsb' (k + b) a ++ v.extractLsb' k b :=
    (BitVec.extractLsb'_append_extractLsb'_eq_extractLsb' rfl).symm
  simp only [maskedWrite, hv, BitVec.not_append, BitVec.and_append, BitVec.or_append]

theorem bit_getLsbD {n : Nat} (v : BitVec n) (k : Nat) : bit (v.getLsbD k) = v.extractLsb' k 1 := by
  apply BitVec.eq_of_getLsbD_eq
  intro j hj
  obtain rfl : j = 0 := by omega
  simp [bit]

/-! ## The fields that a write stores (10_state.md R11 to R34)

A mask is written as its fields, so that `maskedWrite_append` takes a register apart; `simp` is kept from adding up the
widths by which it does so. -/

section Fields
variable (w : Word) (v : Dword)

theorem IndexReg.toWord_ofWord (x : IndexReg) : (IndexReg.ofWord w).toWord =
    maskedWrite (allOnes 1 ++ 0#25 ++ allOnes 6) x.toWord (w.extractLsb' 0 (1 + 25 + 6)) := by
  simp only [IndexReg.toWord, IndexReg.ofWord, maskedWrite_append, maskedWrite_zero, maskedWrite_allOnes, bit_getLsbD,
    -Nat.reduceAdd, -BitVec.reduceAllOnes]

theorem EntryLo.toDword_ofDword (x : EntryLo) : (EntryLo.ofDword v).toDword =
    maskedWrite (0#34 ++ allOnes 24 ++ allOnes 3 ++ allOnes 1 ++ allOnes 1 ++ allOnes 1) x.toDword
      (v.extractLsb' 0 (34 + 24 + 3 + 1 + 1 + 1)) := by
  simp only [EntryLo.toDword, EntryLo.ofDword, maskedWrite_append, maskedWrite_zero, maskedWrite_allOnes, bit_getLsbD,
    -Nat.reduceAdd, -BitVec.reduceAllOnes]

theorem ContextReg.toDword_write (x : ContextReg) : { x with pteBase := v.extractLsb' 23 41 : ContextReg }.toDword =
    maskedWrite (allOnes 41 ++ 0#19 ++ 0#4) x.toDword (v.extractLsb' 0 (41 + 19 + 4)) := by
  simp only [ContextReg.toDword, maskedWrite_append, maskedWrite_zero, maskedWrite_allOnes, -Nat.reduceAdd,
    -BitVec.reduceAllOnes]

theorem pageMaskWord_extract (m : BitVec 18) : pageMaskWord (w.extractLsb' 13 18) =
    maskedWrite (0#1 ++ allOnes 18 ++ 0#13) (pageMaskWord m) (w.extractLsb' 0 (1 + 18 + 13)) := by
  simp only [pageMaskWord, maskedWrite_append, maskedWrite_zero, maskedWrite_allOnes, -Nat.reduceAdd,
    -BitVec.reduceAllOnes]

/-- Wired, WatchHi and Parity Error: one field under zeros. -/
theorem zero_append_extract {k n : Nat} (w : BitVec (k + n)) (x : BitVec n) :
    0#k ++ w.extractLsb' 0 n = maskedWrite (0#k ++ allOnes n) (0#k ++ x) (w.extractLsb' 0 (k + n)) := by
  rw [maskedWrite_append, maskedWrite_zero, maskedWrite_allOnes]

theorem EntryHi.toDword_write (x : EntryHi) : (x.write v).toDword =
    maskedWrite (allOnes 2 ++ 0#22 ++ allOnes 27 ++ 0#5 ++ allOnes 8) x.toDword
      (v.extractLsb' 0 (2 + 22 + 27 + 5 + 8)) := by
  simp only [EntryHi.toDword, EntryHi.write, maskedWrite_append, maskedWrite_zero, maskedWrite_allOnes,
    -Nat.reduceAdd, -BitVec.reduceAllOnes]

theorem Status.toWord_ofWord (x : Status) : (Status.ofWord w).toWord =
    maskedWrite (allOnes 1 ++ allOnes 1 ++ allOnes 1 ++ allOnes 1 ++ 0#1 ++ allOnes 1 ++ 0#1 ++ allOnes 1 ++ 0#1 ++
      allOnes 1 ++ allOnes 1 ++ allOnes 1 ++ 0#1 ++ allOnes 1 ++ allOnes 1 ++ allOnes 1 ++ allOnes 8 ++ allOnes 1 ++
      allOnes 1 ++ allOnes 1 ++ allOnes 2 ++ allOnes 1 ++ allOnes 1 ++ allOnes 1) x.toWord
      (w.extractLsb' 0
        (1 + 1 + 1 + 1 + 1 + 1 + 1 + 1 + 1 + 1 + 1 + 1 + 1 + 1 + 1 + 1 + 8 + 1 + 1 + 1 + 2 + 1 + 1 + 1)) := by
  simp only [Status.toWord, Status.ofWord, maskedWrite_append, maskedWrite_zero, maskedWrite_allOnes, bit_getLsbD,
    -Nat.reduceAdd, -BitVec.reduceAllOnes]

/-- Of Cause only IP1 and IP0 are written; IP7 to IP2 follow their inputs (10_state.md R23, R45). -/
theorem Cause.toWord_write (x : Cause) (live : BitVec 6) :
    ({ x with ip10 := w.extractLsb' 8 2 : Cause }.toWord (live ++ w.extractLsb' 8 2)) =
    maskedWrite (0#1 ++ 0#1 ++ 0#2 ++ 0#12 ++ (0#6 ++ allOnes 2) ++ 0#1 ++ 0#5 ++ 0#2) (x.toWord (live ++ x.ip10))
      (w.extractLsb' 0 (1 + 1 + 2 + 12 + (6 + 2) + 1 + 5 + 2)) := by
  simp only [Cause.toWord, maskedWrite_append, maskedWrite_zero, maskedWrite_allOnes, -Nat.reduceAdd,
    -BitVec.reduceAllOnes]

theorem ConfigReg.toWord_ofWord (x : ConfigReg) (p : Pins) : (ConfigReg.ofWord w).toWord p =
    maskedWrite (0#1 ++ 0#3 ++ allOnes 4 ++ allOnes 2 ++ 0#2 ++ 0#2 ++ 0#2 ++ 0#1 ++ 0#12 ++ allOnes 3) (x.toWord p)
      (w.extractLsb' 0 (1 + 3 + 4 + 2 + 2 + 2 + 2 + 1 + 12 + 3)) := by
  simp only [ConfigReg.toWord, ConfigReg.ofWord, maskedWrite_append, maskedWrite_zero, maskedWrite_allOnes,
    -Nat.reduceAdd, -BitVec.reduceAllOnes]

theorem WatchLo.toWord_ofWord (x : WatchLo) : (WatchLo.ofWord w).toWord =
    maskedWrite (allOnes 29 ++ 0#1 ++ allOnes 1 ++ allOnes 1) x.toWord (w.extractLsb' 0 (29 + 1 + 1 + 1)) := by
  simp only [WatchLo.toWord, WatchLo.ofWord, maskedWrite_append, maskedWrite_zero, maskedWrite_allOnes, bit_getLsbD,
    -Nat.reduceAdd, -BitVec.reduceAllOnes]

theorem XContextReg.toDword_write (x : XContextReg) :
    { x with pteBase := v.extractLsb' 33 31 : XContextReg }.toDword =
    maskedWrite (allOnes 31 ++ 0#2 ++ 0#27 ++ 0#4) x.toDword (v.extractLsb' 0 (31 + 2 + 27 + 4)) := by
  simp only [XContextReg.toDword, maskedWrite_append, maskedWrite_zero, maskedWrite_allOnes, -Nat.reduceAdd,
    -BitVec.reduceAllOnes]

theorem PerfControl.toWord_ofWord (x : PerfControl) : (PerfControl.ofWord w).toWord =
    maskedWrite (0#23 ++ allOnes 4 ++ allOnes 1 ++ allOnes 1 ++ allOnes 1 ++ allOnes 1 ++ allOnes 1) x.toWord
      (w.extractLsb' 0 (23 + 4 + 1 + 1 + 1 + 1 + 1)) := by
  simp only [PerfControl.toWord, PerfControl.ofWord, maskedWrite_append, maskedWrite_zero, maskedWrite_allOnes,
    bit_getLsbD, -Nat.reduceAdd, -BitVec.reduceAllOnes]

end Fields

/-! ## WriteCP0 (45_cp0_system.md R710) -/

theorem getLsbD_maskedWrite {n : Nat} (m x v : BitVec n) (j : Nat) (hj : j < n) :
    (maskedWrite m x v).getLsbD j = if m.getLsbD j then v.getLsbD j else x.getLsbD j := by
  rw [maskedWrite, BitVec.getLsbD_or, BitVec.getLsbD_and, BitVec.getLsbD_and, BitVec.getLsbD_not]
  cases m.getLsbD j <;> simp [hj]

theorem setWidth_maskedWrite (m x : Word) (v : Dword) :
    (maskedWrite m x (low v)).setWidth 64 = maskedWrite (m.setWidth 64) (x.setWidth 64) v := by
  apply BitVec.eq_of_getLsbD_eq
  intro j hj
  rw [getLsbD_maskedWrite _ _ _ _ hj]
  simp only [BitVec.getLsbD_setWidth, hj, decide_true, Bool.true_and]
  by_cases h : j < 32
  · rw [getLsbD_maskedWrite _ _ _ _ h, low, BitVec.getLsbD_setWidth, decide_eq_true h, Bool.true_and]
  · rw [BitVec.getLsbD_of_ge _ j (by omega), BitVec.getLsbD_of_ge m j (by omega), BitVec.getLsbD_of_ge x j (by omega)]
    rfl

theorem State.writeCp0_eq (s : State) (rd : RegNum) (v : Dword) : s.writeCp0 rd v = { s with
    cp0 := s.cp0.write rd v
    inputs := if rd = 11 then { s.inputs with timerReq := false } else s.inputs } := by
  unfold State.writeCp0
  dsimp only
  split <;> rfl

/-- The registers that `Cp0.write` does not ignore. -/
def writableCp0 : List RegNum :=
  [0, 2, 3, 4, 5, 6, 9, 10, 11, 12, 13, 14, 16, 17, 18, 19, 20, 25, 26, 28, 29, 30]

theorem Cp0.write_of_not_mem (c : Cp0) (v : Dword) (h : rd ∉ writableCp0) : c.write rd v = c := by
  simp only [writableCp0, List.mem_cons, List.not_mem_nil, or_false, not_or] at h
  simp only [Cp0.write, h, if_false]

theorem cp0WriteMask_of_not_mem (h : rd ∉ writableCp0) : cp0WriteMask rd = 0 := by
  simp only [writableCp0, List.mem_cons, List.not_mem_nil, or_false, not_or] at h
  simp only [cp0WriteMask, h, if_false, decide_false, Bool.or_false, Bool.false_eq_true]

theorem Cp0.write_keeps (c : Cp0) (rd : RegNum) (v : Dword) : let c' := c.write rd v
    c'.perfCounter0 = c.perfCounter0 ∧ c'.perfCounter1 = c.perfCounter1 ∧ c'.perfControl1 = c.perfControl1 ∧
      c'.random = (if rd = 6 then 47 else c.random) ∧
      c'.cause = if rd = 13 then { c.cause with ip10 := (low v).extractLsb' 8 2 } else c.cause := by
  by_cases h : rd ∈ writableCp0
  · unfold writableCp0 at h
    fin_cases h
    all_goals exact ⟨rfl, rfl, rfl, rfl, rfl⟩
  · have h6 : rd ≠ 6 := by rintro rfl; exact h (by decide)
    have h13 : rd ≠ 13 := by rintro rfl; exact h (by decide)
    rw [c.write_of_not_mem v h, if_neg h6, if_neg h13]
    exact ⟨rfl, rfl, rfl, rfl, rfl⟩

/-- Every other register keeps its word: no field of it is written, but for Random by Wired and the timer's bit of Cause
by Compare. -/
theorem readCp0_writeCp0_ne (s : State) (rd q : RegNum) (v : Dword) (hq : q ≠ rd) (h6 : rd = 6 → q ≠ 1)
    (h11 : rd = 11 → q ≠ 13) : (s.writeCp0 rd v).readCp0 q = s.readCp0 q := by
  rw [State.writeCp0_eq]
  by_cases h : rd ∈ writableCp0
  · unfold writableCp0 at h
    unfold State.readCp0
    dsimp only
    fin_cases h
    all_goals
      simp only [if_neg hq, h6, h11, if_false]
      rfl
  · have hne : rd ≠ 11 := by rintro rfl; exact h (by decide)
    rw [s.cp0.write_of_not_mem v h, if_neg hne]

section Written
variable {rd : RegNum} {v : Dword}

/-- A 32-bit register holds its mask of the low word. -/
theorem readCp0_writeCp0_of_word {m x y : Word} (h : y = maskedWrite m x ((low v).extractLsb' 0 32))
    (hs : s.readCp0 rd = x.setWidth 64) (ht : (s.writeCp0 rd v).readCp0 rd = y.setWidth 64)
    (hm : cp0WriteMask rd = m.setWidth 64) :
    (s.writeCp0 rd v).readCp0 rd = maskedWrite (cp0WriteMask rd) (s.readCp0 rd) v := by
  rw [hm, hs, ht, h, BitVec.extractLsb'_eq_self, setWidth_maskedWrite]

theorem readCp0_writeCp0_of_dword {m x y : Dword} (h : y = maskedWrite m x (v.extractLsb' 0 64))
    (hs : s.readCp0 rd = x) (ht : (s.writeCp0 rd v).readCp0 rd = y) (hm : cp0WriteMask rd = m) :
    (s.writeCp0 rd v).readCp0 rd = maskedWrite (cp0WriteMask rd) (s.readCp0 rd) v := by
  rw [hm, hs, ht, h, BitVec.extractLsb'_eq_self]

end Written

/-- A register that is written whole. -/
theorem eq_maskedWrite_whole {n : Nat} (x v : BitVec n) : v = maskedWrite (allOnes n) x (v.extractLsb' 0 n) := by
  rw [maskedWrite_allOnes, BitVec.extractLsb'_eq_self]

/-- Read back, a register has its mask of what was written. The cases are those of `writableCp0`, in its order. -/
theorem readCp0_writeCp0_self (s : State) (rd : RegNum) (v : Dword) :
    (s.writeCp0 rd v).readCp0 rd = maskedWrite (cp0WriteMask rd) (s.readCp0 rd) v := by
  by_cases h : rd ∈ writableCp0
  · let c := s.cp0
    let w := low v
    unfold writableCp0 at h
    fin_cases h
    · exact readCp0_writeCp0_of_word (IndexReg.toWord_ofWord w c.index) rfl rfl (by decide)
    · exact readCp0_writeCp0_of_dword (EntryLo.toDword_ofDword v c.entryLo0) rfl rfl (by decide)
    · exact readCp0_writeCp0_of_dword (EntryLo.toDword_ofDword v c.entryLo1) rfl rfl (by decide)
    · exact readCp0_writeCp0_of_dword (ContextReg.toDword_write v c.context) rfl rfl (by decide)
    · exact readCp0_writeCp0_of_word (pageMaskWord_extract w c.pageMask) rfl rfl (by decide)
    · exact readCp0_writeCp0_of_word (zero_append_extract (k := 26) (n := 6) w c.wired) rfl rfl (by decide)
    · exact readCp0_writeCp0_of_word (eq_maskedWrite_whole c.count w) rfl rfl (by decide)
    · exact readCp0_writeCp0_of_dword (EntryHi.toDword_write v c.entryHi) rfl rfl (by decide)
    · exact readCp0_writeCp0_of_word (eq_maskedWrite_whole c.compare w) rfl rfl (by decide)
    · exact readCp0_writeCp0_of_word (Status.toWord_ofWord w c.status) rfl rfl (by decide)
    · exact readCp0_writeCp0_of_word (Cause.toWord_write w c.cause _) rfl rfl (by decide)
    · exact readCp0_writeCp0_of_dword (eq_maskedWrite_whole c.epc v) rfl rfl (by decide)
    · exact readCp0_writeCp0_of_word (ConfigReg.toWord_ofWord w c.config s.pins) rfl rfl (by decide)
    · exact readCp0_writeCp0_of_word (eq_maskedWrite_whole c.llAddr w) rfl rfl (by decide)
    · exact readCp0_writeCp0_of_word (WatchLo.toWord_ofWord w c.watchLo) rfl rfl (by decide)
    · exact readCp0_writeCp0_of_word (zero_append_extract (k := 28) (n := 4) w c.watchHi) rfl rfl (by decide)
    · exact readCp0_writeCp0_of_dword (XContextReg.toDword_write v c.xcontext) rfl rfl (by decide)
    · exact readCp0_writeCp0_of_word (PerfControl.toWord_ofWord w c.perfControl0) rfl rfl (by decide)
    · exact readCp0_writeCp0_of_word (zero_append_extract (k := 24) (n := 8) w c.parityError) rfl rfl (by decide)
    · exact readCp0_writeCp0_of_word (eq_maskedWrite_whole c.tagLo w) rfl rfl (by decide)
    · exact readCp0_writeCp0_of_word (eq_maskedWrite_whole c.tagHi w) rfl rfl (by decide)
    · exact readCp0_writeCp0_of_dword (eq_maskedWrite_whole c.errorEpc v) rfl rfl (by decide)
  · have hne : rd ≠ 11 := by rintro rfl; exact h (by decide)
    rw [cp0WriteMask_of_not_mem h, State.writeCp0_eq, s.cp0.write_of_not_mem v h, if_neg hne]
    exact (maskedWrite_zero _ _).symm

/-! ## Moves to CP0 (R703, R705) -/

theorem cp0WriteEffect_writeCp0 (s : State) (rd : RegNum) (v : Dword) :
    Cp0WriteEffect s (s.writeCp0 rd v).advance rd v := by
  obtain ⟨hcounter0, hcounter1, hcontrol1, hrandom, hcause⟩ := s.cp0.write_keeps rd v
  have hwritten := readCp0_writeCp0_self s rd v
  have hothers := fun q => readCp0_writeCp0_ne s rd q v
  rw [State.writeCp0_eq] at hwritten hothers ⊢
  refine ⟨hwritten, ?_, hothers, rfl, ⟨hcounter0, hcounter1, hcontrol1⟩, fun h => hcause.trans (if_neg h),
    rfl, .refl s, ⟨rfl, rfl, rfl, rfl⟩, .refl s, .refl s, .refl s, rfl, .refl s⟩
  change (0#26 ++ (s.cp0.write rd v).random : Word).setWidth 64 = _
  rw [hrandom]
  split
  · rfl
  · rfl

theorem npc_writeCp0 (s : State) (rd : RegNum) (v : Dword) : (s.writeCp0 rd v).npc = s.npc := by
  rw [State.writeCp0_eq]

/-- Settles O43: behind the gates a move to CP0 is `writeCp0`, but for DMTC0 to a 32-bit register. -/
theorem cp0Writes : Obligations.Cp0Writes := by
  intro s rt rd hcp0
  have hmove := advanced_advance (npc_writeCp0 s rd (s.reg rt))
  have heffect := cp0WriteEffect_writeCp0 s rd (s.reg rt)
  refine ⟨⟨_, (exec_mtc0 ..).trans (needCp0_of hcp0 _), hmove, heffect⟩, fun h64 => ?_⟩
  have hgates : exec (.dmtc0 rt rd) s = if isCp0Dword rd || isReservedCp0 rd then
      .next (s.writeCp0 rd (s.reg rt)).advance else .refused .dmtc0To32Bit :=
    (exec_dmtc0 ..).trans ((needCp0_of hcp0 _).trans (need64_of h64 _))
  rw [← isCp0Dword_iff, Bool.not_eq_true]
  exact ⟨fun h => ⟨_, hgates.trans (if_pos (Bool.or_eq_true_iff.2 h)), hmove, heffect⟩,
    fun hd hr => hgates.trans (if_neg (by simp [hd, hr]))⟩

end Sys2Proof.Machine
end

section
/-! O44, O45 and O46: the moves of the performance registers, the TLB instructions, ERET and WAIT. Each is one update of
the registers of CP0, of the TLB or of the sequencing behind its gate: its effect is said once for the update, and the
branch that the model takes is named by the hypothesis that selects it. -/

open Sys2Proof

namespace Sys2Proof.Machine

variable {s : State} {i : Instr} {rt : RegNum} {reg : BitVec 5}

/-! ## Writing the registers of CP0 -/

theorem cp0Effect_setCp0 (s : State) (c : Cp0) (n : Nat) : Cp0Effect s ((s.setCp0 c).drew n).advance c where
  cp0 := rfl
  tlb := rfl
  link := .refl s
  world := ⟨rfl, rfl, rfl, rfl, rfl⟩
  regs := .refl s
  hiLo := .refl s
  fpRegs := .refl s
  fcr31 := rfl
  memory := .refl s

theorem setsCp0_of_drew {c : Cp0} {n : Nat} (h : exec i s = .next ((s.setCp0 c).drew n).advance) : SetsCp0 i s c :=
  ⟨_, h, advanced_advance rfl, cp0Effect_setCp0 s c n⟩

theorem setsCp0_of_setCp0 {c : Cp0} (h : exec i s = .next (s.setCp0 c).advance) : SetsCp0 i s c :=
  setsCp0_of_drew (n := 0) h

/-! ## Performance registers (45_cp0_system.md R706 to R709) -/

/-- The nine fields of a control word are its nine low bits. -/
theorem PerfControl.toWord_ofWord_eq_and (w : Word) : (PerfControl.ofWord w).toWord = w &&& 0x1FF := by
  refine (PerfControl.toWord_ofWord w .zero).trans ?_
  change maskedWrite 0x1FF 0 (w.extractLsb' 0 32) = w &&& 0x1FF
  rw [BitVec.extractLsb'_eq_self]
  simp [maskedWrite]

theorem perfSelect_of_ne (h0 : reg ≠ 0) (h1 : reg ≠ 1) (r0 r1 : Word) : perfSelect reg r0 r1 = none := by
  rw [perfSelect, if_neg h0, if_neg h1]

theorem computes_of_readPerf_none (h : exec i s = readPerf s rt none) : Computes i s rt (s.free 0) :=
  computes_of_drew (n := 1) h

/-- Settles O44: behind the gate a read is the end `readPerf` of the register selected, and a write is one of two
updates or none. -/
theorem performanceRegisterMoves : Obligations.PerformanceRegisterMoves := by
  intro s rt reg hcp0
  have hgate (k : Result) : needCp0 s k = k := needCp0_of hcp0 k
  refine ⟨computes_of_writeReg (hgate _), computes_of_writeReg (hgate _), computes_of_writeReg (hgate _),
    computes_of_writeReg (hgate _), setsCp0_of_setCp0 (hgate _), setsCp0_of_setCp0 (hgate _),
    ⟨_, PerfControl.toWord_ofWord_eq_and _, setsCp0_of_setCp0 (hgate _), setsCp0_of_setCp0 (hgate _)⟩, fun h0 h1 => ?_⟩
  refine ⟨⟨_, computes_of_readPerf_none ?_⟩, ⟨_, computes_of_readPerf_none ?_⟩, doesNothing_of_advance ?_,
    doesNothing_of_advance ?_⟩
  · rw [exec_mfpc, execMfpc, hgate, perfSelect_of_ne h0 h1]
  · rw [exec_mfps, execMfps, hgate, perfSelect_of_ne h0 h1]
  · rw [exec_mtpc, execMtpc, hgate, if_neg h0, if_neg h1]
  · rw [exec_mtps, execMtps, hgate, if_neg h0, if_neg h1]

/-! ## The records of the TLB (10_state.md R15, R19; 45_cp0_system.md R716) -/

theorem legalMask_iff (m : BitVec 18) : legalMask m = true ↔ m ∈ ([0b000000000000000000, 0b000000000000000011,
    0b000000000000001111, 0b000000000000111111, 0b000000000011111111, 0b000000001111111111, 0b000000111111111111,
    0b000011111111111111, 0b001111111111111111, 0b111111111111111111] : List (BitVec 18)) := by
  simp [legalMask, or_assoc]

theorem EntryHi.extractLsb'_vpn2 (h : EntryHi) : h.toDword.extractLsb' 13 19 = h.vpn2.setWidth 19 := by
  apply BitVec.eq_of_getLsbD_eq
  intro j hj
  simp only [EntryHi.toDword, BitVec.getLsbD_extractLsb', BitVec.getLsbD_append, BitVec.getLsbD_setWidth]
  rw [if_neg (by omega), if_neg (by omega), if_pos (by omega)]
  congr 2
  omega

/-- The upper half of EntryHi holds R, the fill bits and the part of VPN2 above an address of 32 bits. -/
theorem EntryHi.extractLsb'_upper (h : EntryHi) :
    h.toDword.extractLsb' 32 32 = h.r ++ h.fill ++ h.vpn2.extractLsb' 19 8 := by
  apply BitVec.eq_of_getLsbD_eq
  intro j hj
  rw [BitVec.getLsbD_extractLsb', EntryHi.toDword, BitVec.getLsbD_append, BitVec.getLsbD_append]
  simp only [BitVec.getLsbD_append, BitVec.getLsbD_extractLsb']
  by_cases h8 : j < 8
  · simp [h8, hj, show ¬32 + j < 8 by omega, show ¬32 + j - 8 < 5 by omega, show 32 + j - 8 - 5 = 19 + j by omega,
      show 19 + j < 27 by omega]
  · simp [h8, hj, show ¬32 + j < 8 by omega, show ¬32 + j - 8 < 5 by omega, show ¬32 + j - 8 - 5 < 27 by omega,
      show 32 + j - 8 - 5 - 27 = j - 8 by omega]

/-- The extension of VPN2 from the 19 bits of 32-bit addressing mode repeats its sign. -/
theorem signExtend_vpn2 (v : BitVec 19) : v.signExtend 27 = (if v.msb then BitVec.allOnes 8 else 0#8) ++ v :=
  BitVec.signExtend_eq_append_of_le (by decide)

section EntryHi
variable (e : TlbEntry)

theorem TlbEntry.entryHi_vpn2 :
    (e.entryHi false).toDword.extractLsb' 13 19 = (e.vpn2 &&& ~~~(0#9 ++ e.mask)).setWidth 19 := by
  rw [EntryHi.extractLsb'_vpn2]
  exact (congrArg (BitVec.setWidth 19) (signExtend_vpn2 _)).trans BitVec.setWidth_append_eq_right

/-- In 32-bit addressing mode the upper half of EntryHi is the sign of the page number (92_eei_decisions.md D22). -/
theorem TlbEntry.entryHi_upper : (e.entryHi false).toDword.extractLsb' 32 32 =
    if ((e.vpn2 &&& ~~~(0#9 ++ e.mask)).setWidth 19).msb then BitVec.allOnes 32 else 0 := by
  rw [EntryHi.extractLsb'_upper]
  generalize hx : e.vpn2 &&& ~~~(0#9 ++ e.mask) = x
  have hsign : x.extractLsb' 18 1 = bit (x.setWidth 19).msb := by
    apply BitVec.eq_of_getLsbD_eq
    intro j hj
    obtain rfl : j = 0 := by omega
    simp [bit, BitVec.msb_eq_getLsbD_last]
  simp only [TlbEntry.entryHi, vpnMask, hx, hsign, signExtend_vpn2, BitVec.extractLsb'_append_eq_left,
    Bool.false_eq_true, if_false]
  cases (x.setWidth 19).msb <;> rfl

end EntryHi

/-! ## The ends of the TLB instructions (R715 to R719) -/

theorem tlbHits_singleton_le {r : BitVec 2} {vpn2 : BitVec 27} {e : TlbEntry} {k : Nat}
    (h : s.tlbHits r vpn2 = [(e, k)]) : k ≤ 47 := by
  have hmem : (e, k) ∈ s.tlbHits r vpn2 := by rw [h]; exact List.mem_singleton_self _
  obtain ⟨hk, -⟩ := (s.mem_tlbHits_iff r vpn2 e k).1 hmem
  obtain ⟨hlt, -⟩ := Vector.getElem?_eq_some_iff.1 hk
  omega

theorem tlbEffect_setTlb (s : State) (c : Cp0) (n : Nat) {k : Nat} (e : TlbEntry) (hk : k ≤ 47) :
    TlbEffect s (((s.setCp0 c).drew n).setTlb k e).advance k e c where
  entry := by simp [State.setTlb, show k < 48 by omega]
  others := fun j hj => Vector.getElem?_setIfInBounds_ne hj.symm
  cp0 := rfl
  link := .refl s
  world := ⟨rfl, rfl, rfl, rfl, rfl⟩
  regs := .refl s
  hiLo := .refl s
  fpRegs := .refl s
  fcr31 := rfl
  memory := .refl s

theorem writeEntry_of_legal (h : legalMask s.cp0.pageMask = true) (k : Nat) :
    writeEntry s k = .next (s.setTlb k s.cp0.makeEntry).advance := if_pos h

theorem writeEntry_of_illegal (h : legalMask s.cp0.pageMask = false) (k : Nat) :
    writeEntry s k = .refused .pageMaskIllegal := if_neg (by simp [h])

section TlbInstructions
variable (hcp0 : s.status.cp0Usable = true)
include hcp0

theorem setsCp0_tlbp_of_miss (h : s.tlbHits s.cp0.entryHi.r s.cp0.entryHi.vpn2 = []) :
    SetsCp0 .tlbp s { s.cp0 with index := { p := true, index := (s.free 0).setWidth 6 } } := by
  refine setsCp0_of_drew (n := 1) ?_
  rw [exec_tlbp, execTlbp, needCp0_of hcp0, h]
  rfl

theorem setsCp0_tlbp_of_hit {e : TlbEntry} {k : Nat}
    (h : s.tlbHits s.cp0.entryHi.r s.cp0.entryHi.vpn2 = [(e, k)]) :
    SetsCp0 .tlbp s { s.cp0 with index := { p := false, index := BitVec.ofNat 6 k } } := by
  refine setsCp0_of_setCp0 ?_
  rw [exec_tlbp, execTlbp, needCp0_of hcp0, h]
  rfl

theorem raises_tlbp_of_two_le (h : 2 ≤ (s.tlbHits s.cp0.entryHi.r s.cp0.entryHi.vpn2).length) :
    Raises .tlbp s .tlbpMultiple := by
  rw [Raises, exec_tlbp, execTlbp, needCp0_of hcp0]
  match hhits : s.tlbHits s.cp0.entryHi.r s.cp0.entryHi.vpn2, h with
  | _ :: _ :: _, _ => rfl

theorem setsCp0_tlbr {e : TlbEntry} (he : s.tlb[s.cp0.index.index.toNat]? = some e) :
    SetsCp0 .tlbr s (s.cp0.withEntry e) := by
  obtain ⟨hlt, rfl⟩ := Vector.getElem?_eq_some_iff.1 he
  refine setsCp0_of_setCp0 ?_
  rw [exec_tlbr, execTlbr, needCp0_of hcp0, dif_pos hlt]

theorem refuses_tlbr (h : 48 ≤ s.cp0.index.index.toNat) : exec .tlbr s = .refused .tlbIndexInvalid := by
  rw [exec_tlbr, execTlbr, needCp0_of hcp0, dif_neg (by omega)]

theorem refuses_tlbwi (h : 48 ≤ s.cp0.index.index.toNat) : exec .tlbwi s = .refused .tlbIndexInvalid := by
  rw [exec_tlbwi, execTlbwi, needCp0_of hcp0, if_neg (by omega)]

theorem exec_tlbwi_of_le (h : s.cp0.index.index.toNat ≤ 47) :
    exec .tlbwi s = writeEntry s s.cp0.index.index.toNat := by
  rw [exec_tlbwi, execTlbwi, needCp0_of hcp0, if_pos (by omega)]

theorem exec_tlbwr_eq : exec .tlbwr s = writeEntry s.freshRandom s.freshRandom.cp0.random.toNat :=
  needCp0_of hcp0 _

end TlbInstructions

/-- The entry that TLBWR makes does not depend on the draw. -/
theorem makeEntry_freshRandom (s : State) : s.freshRandom.cp0.makeEntry = s.cp0.makeEntry := rfl

/-- Settles O45: the number of hits chooses the outcome of TLBP, Index that of TLBR, Index and PageMask that of the
writes. -/
theorem tlbInstructions : Obligations.TlbInstructions := by
  refine ⟨fun _ => rfl, legalMask_iff, fun s hcp0 => ⟨fun h => ⟨_, setsCp0_tlbp_of_miss hcp0 h⟩,
    fun e k h => ⟨tlbHits_singleton_le h, setsCp0_tlbp_of_hit hcp0 h⟩,
    fun h => ⟨raises_tlbp_of_two_le hcp0 h, rfl⟩, fun e he => ?_,
    fun h => ⟨refuses_tlbr hcp0 h, refuses_tlbwi hcp0 h⟩, fun hbad => ⟨?_, fun hk => ?_⟩,
    fun hgood => ⟨fun hk => ?_, ?_⟩⟩⟩
  · refine ⟨e.entryHi s.status.addr64, ?_, fun h64 => ?_, fun h64 => ?_, setsCp0_tlbr hcp0 he⟩
    · cases s.status.addr64 <;> rfl
    · rw [h64]
      exact ⟨rfl, rfl, rfl⟩
    · rw [h64]
      exact ⟨e.entryHi_vpn2, e.entryHi_upper⟩
  · exact (exec_tlbwr_eq hcp0).trans (writeEntry_of_illegal (s := s.freshRandom) hbad _)
  · exact (exec_tlbwi_of_le hcp0 hk).trans (writeEntry_of_illegal hbad _)
  · exact ⟨_, (exec_tlbwi_of_le hcp0 hk).trans (writeEntry_of_legal hgood _), advanced_advance rfl,
      tlbEffect_setTlb s s.cp0 0 _ hk⟩
  · obtain ⟨hle, hwired⟩ := drawRandom_bounds s.cp0.wired (s.free 0)
    refine ⟨_, _, hle, hwired, (exec_tlbwr_eq hcp0).trans (writeEntry_of_legal (s := s.freshRandom) hgood _),
      advanced_advance rfl, ?_⟩
    rw [BitVec.ofNat_toNat, BitVec.setWidth_eq]
    exact tlbEffect_setTlb s _ 1 _ hle

/-! ## ERET and WAIT (R730, R735) -/

theorem exceptionReturn_of_erl (h : s.status.erl = true) : exceptionReturn s =
    { (s.setStatus { s.status with erl := false }).setPc s.cp0.errorEpc with llBit := false } := if_pos h

theorem exceptionReturn_of_not_erl (h : s.status.erl = false) : exceptionReturn s =
    { (s.setStatus { s.status with exl := false }).setPc s.cp0.epc with llBit := false } := if_neg (by simp [h])

/-- Settles O46: ERET is `exceptionReturn` by Status.ERL; WAIT tests what R735 leaves undefined. -/
theorem returnAndStandby : Obligations.ReturnAndStandby := by
  intro s code hcp0
  refine ⟨fun hslot => ⟨exceptionReturn s, (needCp0_of hcp0 _).trans (needNoSlot_of hslot _), ?_⟩,
    fun hslot hexl herl => ⟨s.advance.setRunState .standby, ?_, advanced_advance rfl, rfl, rfl, rfl, .refl s, rfl, rfl,
      rfl, rfl, .refl s, .refl s, .refl s, rfl, .refl s⟩, fun h => (needCp0_of hcp0 _).trans (if_pos h)⟩
  · cases herl : s.status.erl with
    | true =>
      rw [exceptionReturn_of_erl herl]
      exact ⟨rfl, rfl, ⟨⟨rfl, rfl, rfl⟩, rfl⟩, .refl s, .refl s, .refl s, rfl, rfl, ⟨rfl, rfl, rfl, rfl, rfl⟩, .refl s⟩
    | false =>
      rw [exceptionReturn_of_not_erl herl]
      exact ⟨rfl, rfl, ⟨⟨rfl, rfl, rfl⟩, rfl⟩, .refl s, .refl s, .refl s, rfl, rfl, ⟨rfl, rfl, rfl, rfl, rfl⟩, .refl s⟩
  · exact (needCp0_of hcp0 _).trans (if_neg (by simp [hslot, hexl, herl]))

end Sys2Proof.Machine
end

section
/-! O51, O52 and O53: the loads, stores and moves of the FPU. An instruction that writes a floating-point register is
its gates around one of two writes, of a word or of a doubleword, and ends in one of two ways; a law for each write
answers for both ends. The views of FCR31 are rows of fields, taken apart from the right. -/

open Sys2Proof
open BitVec (allOnes)

namespace Sys2Proof.Machine

variable {s t : State} {i : Instr} {f : FprNum}

/-! ## Writes of floating-point registers (10_state.md R51, R52; 46_fpu_move_ls.md R831, R832) -/

/-- An end of an instruction: after a write of a floating-point register it has moved on and written nothing more. -/
def EndsFpWrite (s : State) (e : State → State) : Prop := ∀ fd p n, let t := e ((s.setFp fd p).drew n)
  Advanced s t ∧ FpEffect s t fd s.fcr31 ∧ t.fp fd = p

theorem endsFpWrite_advance (s : State) : EndsFpWrite s State.advance := fun fd p n =>
  ⟨advanced_advance (by simp), fpEffect_setFp s fd p n, by simp⟩

theorem endsFpWrite_access (s : State) : EndsFpWrite s fun t => t.noteAccess.advance := fun fd p n =>
  ⟨advanced_advance (by simp), fpEffect_load s fd p n, by simp⟩

/-- The word `w` is written to the half that FR and the number select. -/
def WritesFgrWord (i : Instr) (s : State) (f : FprNum) (w : Word) : Prop :=
  if s.oddFp f then FpWrites i s (evenOf f) fun p => p = { s.fp (evenOf f) with hi := w }
  else FpWrites i s f fun p => p.lo = w ∧ (s.status.fr = false → p.hi = (s.fp f).hi)

theorem State.oddFp_eq_true_iff : s.oddFp f = true ↔ s.status.fr = false ∧ f.getLsbD 0 = true := by
  simp [State.oddFp]

theorem State.writeFgrWord_odd (h : s.oddFp f = true) (w : Word) :
    s.writeFgrWord f w = s.setFp (evenOf f) { s.fp (evenOf f) with hi := w } := by
  obtain ⟨hfr, hf⟩ := State.oddFp_eq_true_iff.1 h
  rw [State.writeFgrWord, if_neg (by simp [hfr]), if_pos hf]

/-- Where the number names a register of its own, the word is its low half; the upper half stays with FR = 0. -/
theorem State.writeFgrWord_own (h : s.oddFp f = false) (w : Word) :
    ∃ p n, s.writeFgrWord f w = (s.setFp f p).drew n ∧ p.lo = w ∧ (s.status.fr = false → p.hi = (s.fp f).hi) := by
  cases hfr : s.status.fr with
  | true => exact ⟨_, 1, if_pos hfr, rfl, nofun⟩
  | false =>
    have hf : f.getLsbD 0 = false := (State.oddFp_of_fr hfr f).symm.trans h
    refine ⟨{ s.fp f with lo := w }, 0, ?_, rfl, fun _ => rfl⟩
    rw [State.writeFgrWord, if_neg (by simp [hfr]), if_neg (ne_true_of_eq_false hf)]
    rfl

section FpWriteEnds
variable {e : State → State} (he : EndsFpWrite s e)
include he

theorem fpWrites_of_setFp {fd : FprNum} {p : FpReg} {n : Nat} {P : FpReg → Prop}
    (hi : exec i s = .next (e ((s.setFp fd p).drew n))) (hp : P p) : FpWrites i s fd P := by
  obtain ⟨hadv, heff, hval⟩ := he fd p n
  exact ⟨_, hi, hadv, heff, hval.symm ▸ hp⟩

theorem writesFgrWord_of {w : Word} (hi : exec i s = .next (e (s.writeFgrWord f w))) : WritesFgrWord i s f w := by
  unfold WritesFgrWord
  split
  · next hodd =>
    rw [State.writeFgrWord_odd hodd] at hi
    exact fpWrites_of_setFp he (n := 0) hi rfl
  · next hown =>
    obtain ⟨p, n, hw, hp⟩ := State.writeFgrWord_own (Bool.eq_false_of_not_eq_true hown) w
    rw [hw] at hi
    exact fpWrites_of_setFp he hi hp

theorem fpWrites_of_writeFgrDouble {v : Dword} (hi : exec i s = .next (e (s.writeFgrDouble f v))) :
    FpWrites i s f fun p => p.hi ++ p.lo = v := by
  obtain ⟨p, n, hw, hp⟩ := FpFormat.store_eq .double f v s
  rw [show s.writeFgrDouble f v = _ from hw] at hi
  exact fpWrites_of_setFp he hi hp

end FpWriteEnds

/-! ## Loads and stores (R800 to R803, R805 to R810) -/

/-- A load of a word: its exceptions, and what it writes where there is none. -/
def LoadsFgrWord (i : Instr) (s : State) (va : Dword) (f : FprNum) : Prop :=
  TakesAccessException i s va 4 false ∧
    ∀ pa attr, Accessible s va 4 false pa attr → WritesFgrWord i s f (low (s.memRead pa 4))

/-- A load of a doubleword, which stops at an odd register with FR = 0 (log 34). -/
def LoadsFgrDouble (i : Instr) (s : State) (va : Dword) (f : FprNum) : Prop :=
  TakesAccessException i s va 8 false ∧ ∀ pa attr, Accessible s va 8 false pa attr →
    if s.oddFp f then exec i s = .refused .oddFpRegister else FpWrites i s f fun p => p.hi ++ p.lo = s.memRead pa 8

/-- A store of the word that FR and the number select. -/
def StoresFgrWord (i : Instr) (s : State) (va : Dword) (f : FprNum) : Prop :=
  TakesAccessException i s va 4 true ∧
    ∀ pa attr, Accessible s va 4 true pa attr → Stores i s pa 4 ((s.readFgrWord f).setWidth 64)

/-- A store of a doubleword, whose data are free for an odd register with FR = 0 (log 34). -/
def StoresFgrDouble (i : Instr) (s : State) (va : Dword) (f : FprNum) : Prop :=
  TakesAccessException i s va 8 true ∧ ∀ pa attr, Accessible s va 8 true pa attr →
    if s.oddFp f then ∃ v, Stores i s pa 8 v else Stores i s pa 8 (s.readFgrDouble f)

theorem StoreEffect.drew {a n : Nat} {v r : Dword} {rd : RegNum} (h : StoreEffect s t a n v rd r) (k : Nat) :
    StoreEffect s (t.drew k) a n v rd r where
  bytes := h.bytes
  memory := h.memory
  value := h.value
  regs := h.regs
  hiLo := h.hiLo
  fpRegs := h.fpRegs
  fcr31 := h.fcr31
  system := h.system.trans (sameSystem_drew t k)

section Accesses
variable {va : Dword}

theorem loadsFgrWord_of (hi : exec i s = loadFgrWord s va f) : LoadsFgrWord i s va f :=
  ⟨takes_of_withData hi, fun _ _ h => writesFgrWord_of (endsFpWrite_access s) (hi.trans (withData_ok h _))⟩

theorem loadsFgrDouble_of (hi : exec i s = loadFgrDouble s va f) : LoadsFgrDouble i s va f := by
  refine ⟨takes_of_withData hi, fun pa attr h => ?_⟩
  have hdone := hi.trans (withData_ok h _)
  split
  · next hodd => exact hdone.trans (if_pos hodd)
  · next hown => exact fpWrites_of_writeFgrDouble (endsFpWrite_access s) (hdone.trans (if_neg hown))

theorem storesFgrWord_of (hc : s.Canonical) (hi : exec i s = storeFgrWord s va f) : StoresFgrWord i s va f :=
  ⟨takes_of_withData hi, fun _ _ h => stores_of_storeBytes hc hi h⟩

theorem storesFgrDouble_of (hc : s.Canonical) (hi : exec i s = storeFgrDouble s va f) : StoresFgrDouble i s va f := by
  refine ⟨takes_of_withData hi, fun pa attr h => ?_⟩
  have hdone := hi.trans (withData_ok h _)
  split
  · next hodd =>
    exact ⟨s.free 0, _, hdone.trans (if_pos hodd), advanced_advance rfl, (storeEffect_memWrite hc pa 8 _).drew 1⟩
  · next hown => exact ⟨_, hdone.trans (if_neg hown), advanced_advance rfl, storeEffect_memWrite hc pa 8 _⟩

end Accesses

/-- A write to 0 keeps the bits of the mask. -/
theorem maskedWrite_of_zero {n : Nat} (m v : BitVec n) : maskedWrite m 0#n v = v &&& m := by
  simp [maskedWrite]

theorem maskLow3_eq (va : Dword) : maskLow3 va = va &&& ~~~7#64 := by
  have h := maskedWrite_append (allOnes 61) 0#61 0#3 0#3 va 0
  rw [maskedWrite_allOnes, maskedWrite_zero, BitVec.extractLsb'_eq_self] at h
  exact h.symm.trans (maskedWrite_of_zero _ va)

section IndexedGates
variable {base : RegNum} {va : Dword} (hcu1 : s.status.cu1 = true) (hm : s.status.mips4 = true) (k : Result)
include hcu1 hm

/-- The gates of an indexed access whose address stays in the region of its base. -/
theorem indexedGates_of (h : va.extractLsb' 62 2 = (s.reg base).extractLsb' 62 2) :
    needFpu s (needMips4 s (needSameRegion s base va k)) = k := by
  rw [needFpu_of hcu1, needMips4_of hm, needSameRegion, if_pos h]

/-- The same gates where the address leaves that region. -/
theorem indexedGates_not (h : va.extractLsb' 62 2 ≠ (s.reg base).extractLsb' 62 2) :
    needFpu s (needMips4 s (needSameRegion s base va k)) = .refused .indexedRegionMismatch := by
  rw [needFpu_of hcu1, needMips4_of hm, needSameRegion, if_neg h]

end IndexedGates

/-- Settles O51: each instruction is its gates around one of four accesses; the indexed forms share their gates, and
LUXC1 and SUXC1 mask their address. -/
theorem fpLoadsAndStores : Obligations.FpLoadsAndStores := by
  intro s base index f offset hcu1 hc
  have hgate (k : Result) : needFpu s k = k := needFpu_of hcu1 k
  refine ⟨loadsFgrWord_of (hgate _), loadsFgrDouble_of (hgate _), storesFgrWord_of hc (hgate _),
    storesFgrDouble_of hc (hgate _), fun hm => ⟨fun h => ?_, fun h i hi => ?_⟩⟩
  · have hgates := fun k => indexedGates_of hcu1 hm k h
    rw [← maskLow3_eq]
    exact ⟨loadsFgrWord_of (hgates _), loadsFgrDouble_of (hgates _), loadsFgrDouble_of (hgates _),
      storesFgrWord_of hc (hgates _), storesFgrDouble_of hc (hgates _), storesFgrDouble_of hc (hgates _)⟩
  · fin_cases hi <;> exact indexedGates_not hcu1 hm _ h

/-! ## The control registers (10_state.md R53 to R58)

A register of fields is the bitwise or of its fields, each shifted to its place. -/

/-- A row of fields, taken apart from the right. -/
theorem setWidth_append_eq_or {a b : Nat} (n : Nat) (x : BitVec a) (y : BitVec b) :
    (x ++ y).setWidth n = x.setWidth n <<< b ||| y.setWidth n := by
  apply BitVec.eq_of_getLsbD_eq
  intro j hj
  simp only [BitVec.getLsbD_or, BitVec.getLsbD_shiftLeft, BitVec.getLsbD_setWidth, BitVec.getLsbD_append, hj,
    decide_true, Bool.true_and]
  by_cases h : j < b
  · simp [h]
  · simp [h, show j - b < n by omega, BitVec.getLsbD_of_ge y j (by omega)]

theorem setWidth_bit {n : Nat} (b : Bool) : (bit b).setWidth n = if b then 1#n else 0#n := by
  cases b with
  | true => exact BitVec.eq_of_toNat_eq (by simp [bit])
  | false => simp [bit]

theorem ite_zero_shiftLeft {n : Nat} (b : Bool) (x : BitVec n) (k : Nat) :
    (if b then x else 0#n) <<< k = if b then x <<< k else 0#n := by
  cases b with
  | true => rfl
  | false => simp

theorem sext_eq_setWidth {w : Word} (h : w.msb = false) : sext w = w.setWidth 64 :=
  BitVec.signExtend_eq_setWidth_of_msb_false h

section Views
variable (c : Fcr31)

theorem Fcr31.sext_conditionWord : sext c.conditionWord = c.cc.setWidth 64 := by
  rw [sext_eq_setWidth (BitVec.msb_append.trans rfl), Fcr31.conditionWord, setWidth_append_eq_or]
  simp

theorem Fcr31.sext_causeFlagWord :
    sext c.causeFlagWord = c.cause.setWidth 64 <<< 12 ||| c.flags.setWidth 64 <<< 2 := by
  have hmsb : c.causeFlagWord.msb = false := by simp [Fcr31.causeFlagWord, BitVec.msb_append, -Nat.reduceAdd]
  rw [sext_eq_setWidth hmsb, Fcr31.causeFlagWord]
  simp [-Nat.reduceAdd, setWidth_append_eq_or, BitVec.shiftLeft_or_distrib, ← BitVec.shiftLeft_add]

theorem Fcr31.sext_enableModeWord : sext c.enableModeWord =
    c.enables.setWidth 64 <<< 7 ||| (if c.fs then 4 else 0) ||| c.rm.setWidth 64 := by
  have hmsb : c.enableModeWord.msb = false := by simp [Fcr31.enableModeWord, BitVec.msb_append, -Nat.reduceAdd]
  rw [sext_eq_setWidth hmsb, Fcr31.enableModeWord]
  simp [-Nat.reduceAdd, setWidth_append_eq_or, BitVec.shiftLeft_or_distrib, ← BitVec.shiftLeft_add,
    setWidth_bit, ite_zero_shiftLeft]

theorem Fcr31.toWord_eq : c.toWord = (c.cc >>> 1).setWidth 32 <<< 25 ||| (if c.fs then 0x1000000 else 0) |||
    (c.cc &&& 1).setWidth 32 <<< 23 ||| c.cause.setWidth 32 <<< 12 ||| c.enables.setWidth 32 <<< 7 |||
    c.flags.setWidth 32 <<< 2 ||| c.rm.setWidth 32 := by
  have hhigh : (c.cc.extractLsb' 1 7).setWidth 32 = (c.cc >>> 1).setWidth 32 := by
    apply BitVec.eq_of_toNat_eq
    have := c.cc.isLt
    simp [Nat.shiftRight_eq_div_pow]
    omega
  have hlow : (c.cc.extractLsb' 0 1).setWidth 32 = (c.cc &&& 1).setWidth 32 := by
    apply BitVec.eq_of_toNat_eq
    simp [Nat.and_one_is_mod]
    omega
  rw [← BitVec.setWidth_eq c.toWord, Fcr31.toWord]
  simp only [setWidth_append_eq_or, BitVec.shiftLeft_or_distrib, ← BitVec.shiftLeft_add, setWidth_bit,
    ite_zero_shiftLeft, hhigh, hlow]
  simp

/-- A write of FCR31 stores every field and drops the zeros (46_fpu_move_ls.md R817). -/
theorem Fcr31.toWord_ofWord (w : Word) : (Fcr31.ofWord w).toWord = maskedWrite
    (allOnes 7 ++ allOnes 1 ++ allOnes 1 ++ 0#5 ++ allOnes 6 ++ allOnes 5 ++ allOnes 5 ++ allOnes 2) c.toWord
      (w.extractLsb' 0 (7 + 1 + 1 + 5 + 6 + 5 + 5 + 2)) := by
  simp only [Fcr31.toWord, Fcr31.ofWord, BitVec.extractLsb'_append_eq_left, BitVec.extractLsb'_append_eq_right,
    maskedWrite_append, maskedWrite_zero, maskedWrite_allOnes, bit_getLsbD, -Nat.reduceAdd, -BitVec.reduceAllOnes]

theorem Fcr31.toWord_ofWord_eq_and (w : Word) : (Fcr31.ofWord w).toWord = w &&& 0xFF83FFFF := by
  refine (Fcr31.toWord_ofWord ⟨0, false, 0, 0, 0, 0⟩ w).trans ?_
  rw [BitVec.extractLsb'_eq_self]
  exact maskedWrite_of_zero 0xFF83FFFF w

end Views

/-! ## Moves (R812 to R817, R823, R824) -/

section ControlMoves
variable {rt : RegNum} (hcu1 : s.status.cu1 = true)
include hcu1

theorem computes_cfc1 {w : Word} (h : s.fcr f = some w) : Computes (.cfc1 rt f) s rt (sext w) :=
  computes_of_writeReg (by rw [exec_cfc1, execCfc1, needFpu_of hcu1, h]; rfl)

theorem computes_cfc1_reserved (h : s.fcr f = none) : Computes (.cfc1 rt f) s rt (s.free 0) :=
  computes_of_drew (n := 1) (by rw [exec_cfc1, execCfc1, needFpu_of hcu1, h])

/-- A write of a view of FCR31 precedes the exception that it may cause. -/
theorem ctc1_of_writeView {g : Fcr31} (h : s.fcr31.writeView f (low (s.reg rt)) = some g) :
    if fpTraps g g.cause then exec (.ctc1 rt f) s = .next (takeException .floatingPoint (s.setFcr31 g))
    else SetsFcr31 (.ctc1 rt f) s g := by
  have hi : exec (.ctc1 rt f) s = if g.traps then raise .floatingPoint (s.setFcr31 g)
      else .next (s.setFcr31 g).advance := by
    rw [exec_ctc1, execCtc1, needFpu_of hcu1, h]
  split
  · next ht => exact hi.trans (if_pos ht)
  · next ht => exact setsFcr31_of (hi.trans (if_neg ht))

theorem ctc1_of_none (h : s.fcr31.writeView f (low (s.reg rt)) = none) : exec (.ctc1 rt f) s =
    if f = 0 then .next s.advance else .refused .ctc1Reserved := by
  rw [exec_ctc1, execCtc1, needFpu_of hcu1, h]

end ControlMoves

/-- The numbers of no control register (10_state.md R58). -/
theorem fcr_reserved (h : f ∉ ([0, 25, 26, 28, 31] : List FprNum)) :
    s.fcr f = none ∧ ∀ w, s.fcr31.writeView f w = none := by
  simp only [List.mem_cons, List.not_mem_nil, or_false, not_or] at h
  obtain ⟨h0, h25, h26, h28, h31⟩ := h
  refine ⟨?_, fun w => ?_⟩
  · rw [State.fcr, if_neg h0, if_neg h25, if_neg h26, if_neg h28, if_neg h31]
  · rw [Fcr31.writeView, if_neg h25, if_neg h26, if_neg h28, if_neg h31]

/-- Settles O52: behind the gate of coprocessor 1 each move is one of the shared ends; CFC1 and CTC1 go by the view that
the number names. -/
theorem fpMoves : Obligations.FpMoves := by
  intro s rt rs rd f cc hcu1
  have hgate (k : Result) : needFpu s k = k := needFpu_of hcu1 k
  refine ⟨computes_of_writeReg (hgate _), writesFgrWord_of (endsFpWrite_advance s) (hgate _), fun h64 => ?_,
    computes_cfc1 hcu1 rfl, s.fcr31.sext_conditionWord ▸ computes_cfc1 hcu1 rfl,
    s.fcr31.sext_causeFlagWord ▸ computes_cfc1 hcu1 rfl, s.fcr31.sext_enableModeWord ▸ computes_cfc1 hcu1 rfl,
    s.fcr31.toWord_eq ▸ computes_cfc1 hcu1 rfl, ctc1_of_writeView hcu1 ?_, ctc1_of_writeView hcu1 ?_,
    ctc1_of_writeView hcu1 ?_, ⟨_, Fcr31.toWord_ofWord_eq_and _, ctc1_of_writeView hcu1 rfl⟩,
    doesNothing_of_advance (ctc1_of_none hcu1 rfl), fun hf => ?_, fun hm => ?_⟩
  · have hgate64 (k : Result) : needFpu s (need64 s k) = k := (hgate _).trans (need64_of h64 k)
    exact ⟨fun hown => ⟨computes_of_writeReg ((hgate64 _).trans (if_neg (ne_true_of_eq_false hown))),
      fpWrites_of_writeFgrDouble (endsFpWrite_advance s) ((hgate64 _).trans (if_neg (ne_true_of_eq_false hown)))⟩,
      fun hodd => ⟨s.free 0, computes_of_drew (n := 1) ((hgate64 _).trans (if_pos hodd))⟩⟩
  · rfl
  · rfl
  · rfl
  · obtain ⟨hread, hwrite⟩ := fcr_reserved (s := s) hf
    have h0 : f ≠ 0 := fun h => hf (h ▸ List.mem_cons_self)
    exact ⟨⟨_, computes_cfc1_reserved hcu1 hread⟩, (ctc1_of_none hcu1 (hwrite _)).trans (if_neg h0)⟩
  · have hgate4 (k : Result) : needFpu s (needMips4 s k) = k := (hgate _).trans (needMips4_of hm k)
    split
    · next h => exact ⟨computes_of_writeReg ((hgate4 _).trans (if_pos h)),
        doesNothing_of_advance ((hgate4 _).trans (if_pos h))⟩
    · next h => exact ⟨computes_of_writeReg ((hgate4 _).trans (if_neg h)),
        doesNothing_of_advance ((hgate4 _).trans (if_neg h))⟩

/-! ## Moves of a format (R825 to R829) -/

theorem moves_of_fpMoveIf {fmt : FpFormat} {moved : Bool} {fs fd : FprNum} (hodd : [fs, fd].any s.oddFp = false)
    (hi : exec i s = fpMoveIf fmt moved s fs fd) :
    ∃ t, exec i s = .next t ∧ Advanced s t ∧ FpEffect s t fd s.fcr31 ∧
      fpHolds t fmt fd (fmt.read s (if moved then fs else fd)) := by
  obtain ⟨p, n, hstore, hp⟩ := FpFormat.store_eq fmt fd (fmt.read s (if moved then fs else fd)) s
  rw [fpMoveIf, needEvenFp_of hodd, hstore] at hi
  obtain ⟨hadv, heff, hval⟩ := endsFpWrite_advance s fd p n
  refine ⟨_, hi, hadv, heff, ?_⟩
  cases fmt with
  | single => exact (congrArg FpReg.lo hval).trans hp
  | double => exact (congrArg FpReg.toDword hval).trans hp

/-- Settles O53: each form is its gates around `fpMoveIf` of its format and its condition. -/
theorem fpRegisterMoves : Obligations.FpRegisterMoves := by
  intro s rt fs fd cc ⟨hcu1, hodd⟩
  have hgate (k : Result) : needFpu s k = k := needFpu_of hcu1 k
  refine ⟨moves_of_fpMoveIf hodd (hgate _), moves_of_fpMoveIf hodd (hgate _), fun hm => ?_⟩
  have hgate4 (k : Result) : needFpu s (needMips4Fp s k) = k := (hgate _).trans (needMips4Fp_of hm k)
  exact ⟨moves_of_fpMoveIf hodd (hgate4 _), moves_of_fpMoveIf hodd (hgate4 _), moves_of_fpMoveIf hodd (hgate4 _),
    moves_of_fpMoveIf hodd (hgate4 _), moves_of_fpMoveIf hodd (hgate4 _), moves_of_fpMoveIf hodd (hgate4 _),
    moves_of_fpMoveIf hodd (hgate4 _), moves_of_fpMoveIf hodd (hgate4 _)⟩

end Sys2Proof.Machine
end

section
/-! The numbers of the FPU as rationals: `ratOf` under a change of sign, a product and a common exponent. The statements
of O55 to O58 speak of these values, the model of signs, mantissas and exponents. -/

open Sys2Proof

namespace Sys2Proof.Machine

variable (a b : Bool) (m n : Nat) (e g : Int)

/-! ## Powers of two -/

theorem two_zpow_pos : (0 : Rat) < 2 ^ e := zpow_pos (by norm_num) e

theorem two_zpow_add : (2 : Rat) ^ (e + g) = 2 ^ e * 2 ^ g := zpow_add₀ (by norm_num) e g

theorem two_zpow_add_nat (k : Nat) : (2 : Rat) ^ (e + (k : Int)) = 2 ^ e * 2 ^ k := by
  rw [two_zpow_add, zpow_natCast]

/-- An exponent is what its nonnegative part raises and its negative part lowers. -/
theorem two_zpow_eq_div : (2 : Rat) ^ e = 2 ^ e.toNat / 2 ^ (-e).toNat := by
  have h : e + (-e).toNat = e.toNat := by omega
  rw [eq_div_iff (by positivity), ← two_zpow_add_nat, h, zpow_natCast]

/-! ## Values -/

theorem ratOf_false : ratOf false m e = m * 2 ^ e := by simp [ratOf]

theorem ratOf_eq : ratOf a m e = (if a then -1 else 1) * (m * 2 ^ e) := by rw [ratOf, mul_assoc]

@[simp] theorem ratOf_zero : ratOf a 0 e = 0 := by simp [ratOf]

theorem ratOf_not : ratOf (!a) m e = -ratOf a m e := by cases a <;> simp [ratOf_eq]

theorem ratOf_false_nonneg : 0 ≤ ratOf false m e := by
  rw [ratOf_false]
  exact mul_nonneg m.cast_nonneg (two_zpow_pos e).le

theorem abs_ratOf : |ratOf a m e| = ratOf false m e := by
  have h := abs_of_nonneg (ratOf_false_nonneg m e)
  cases a with
  | false => exact h
  | true => rw [show true = !false from rfl, ratOf_not, abs_neg, h]

theorem ratOf_mul : ratOf (a != b) (m * n) (e + g) = ratOf a m e * ratOf b n g := by
  have hsign : (if (a != b) = true then (-1 : Rat) else 1) = (if a then -1 else 1) * (if b then -1 else 1) := by
    cases a <;> cases b <;> simp
  rw [ratOf_eq, ratOf_eq, ratOf_eq, two_zpow_add, hsign]
  push_cast
  ring

/-- An integer times a power of two. -/
theorem ratOf_natAbs (z : Int) : ratOf (decide (z < 0)) z.natAbs e = z * 2 ^ e := by
  rw [ratOf, Nat.cast_natAbs]
  rcases lt_or_ge z 0 with hz | hz
  · rw [if_pos (decide_eq_true hz), abs_of_neg hz]
    push_cast
    ring
  · rw [if_neg (by simpa using hz), abs_of_nonneg hz, one_mul]

/-! ## A common exponent -/

/-- A number is its `scaled` integer, at any exponent not above its own. -/
theorem ratOf_eq_scaled {e e0 : Int} (h : e0 ≤ e) : ratOf a m e = scaled a m e e0 * 2 ^ e0 := by
  have he : e = e0 + ((e - e0).toNat : Int) := by omega
  rw [ratOf_eq, scaled]
  conv_lhs => rw [he, two_zpow_add_nat]
  cases a <;> simp <;> ring

theorem scaled_lt_iff : scaled a m e (min e g) < scaled b n g (min e g) ↔ ratOf a m e < ratOf b n g := by
  rw [ratOf_eq_scaled a m (min_le_left e g), ratOf_eq_scaled b n (min_le_right e g),
    mul_lt_mul_iff_left₀ (two_zpow_pos _), Int.cast_lt]

theorem scaled_eq_iff : scaled a m e (min e g) = scaled b n g (min e g) ↔ ratOf a m e = ratOf b n g := by
  rw [ratOf_eq_scaled a m (min_le_left e g), ratOf_eq_scaled b n (min_le_right e g),
    mul_left_inj' (two_zpow_pos _).ne', Int.cast_inj]

end Sys2Proof.Machine
end

section
/-! O54 and O56: every arithmetic instruction of the FPU is its gates around FPFinish of its operation, and every
compare its gates around `fpCompare` of its condition. -/

open Sys2Proof

namespace Sys2Proof.Machine

variable {s : State} {i : Instr}

/-! ## Arithmetic (47_fpu_arith.md R850, R865 to R877) -/

/-- The end of a computation on the registers `regs`, behind the gate of even registers. -/
theorem finishes_of_needEvenFp {regs : List FprNum} {f : FpFormat} {fd : FprNum} {r : FpResult}
    (hodd : regs.any s.oddFp = false) (h : exec i s = needEvenFp s regs (f.finish s fd r)) : Finishes i s f fd r :=
  finishes_of_finish (h.trans (needEvenFp_of hodd _))

/-- Settles O54: each instruction is its gates around FPFinish of its operation on its operands. -/
theorem fpArithmetic : Obligations.FpArithmetic := by
  intro s fr ft fs fd
  refine ⟨fun ⟨hcu1, hodd⟩ => ?two, fun ⟨hcu1, hodd⟩ => ?one, fun ⟨hcu1, hodd⟩ hm => ?madd⟩
  all_goals have hgate (k : Result) : needFpu s k = k := needFpu_of hcu1 k
  case two =>
    have finishes {i f r} (h : exec i s = needFpu s (needEvenFp s [ft, fs, fd] (f.finish s fd r))) :
        Finishes i s f fd r := finishes_of_needEvenFp hodd (h.trans (hgate _))
    exact ⟨finishes rfl, finishes rfl, finishes rfl, finishes rfl, finishes rfl, finishes rfl, finishes rfl,
      finishes rfl⟩
  case one =>
    have finishes {i f r} (h : exec i s = needFpu s (needEvenFp s [fs, fd] (f.finish s fd r))) :
        Finishes i s f fd r := finishes_of_needEvenFp hodd (h.trans (hgate _))
    refine ⟨finishes rfl, finishes rfl, finishes rfl, finishes rfl, finishes rfl, finishes rfl, fun hm => ?_⟩
    have finishes4 {i f r} (h : exec i s = needFpu s (needMips4Fp s (needEvenFp s [fs, fd] (f.finish s fd r)))) :
        Finishes i s f fd r := finishes_of_needEvenFp hodd (h.trans ((hgate _).trans (needMips4Fp_of hm _)))
    exact ⟨finishes4 rfl, finishes4 rfl, finishes4 rfl, finishes4 rfl⟩
  case madd =>
    have finishes {i f r}
        (h : exec i s = needFpu s (needMips4Fp s (needEvenFp s [fr, ft, fs, fd] (f.finish s fd r)))) :
        Finishes i s f fd r := finishes_of_needEvenFp hodd (h.trans ((hgate _).trans (needMips4Fp_of hm _)))
    exact ⟨finishes rfl, finishes rfl, finishes rfl, finishes rfl, finishes rfl, finishes rfl, finishes rfl,
      finishes rfl⟩

/-! ## Comparisons (R895) -/

/-- A number that is no infinity and no NaN is its sign, mantissa and exponent. -/
theorem Fp.parts_of_fpValue {x : Fp} {v : Rat} (h : fpValue x = some v) :
    ∃ neg m e, x.parts = some (neg, m, e) ∧ ratOf neg m e = v := by
  cases x with
  | finite neg m e | denormal neg m e => exact ⟨neg, m, e, rfl, Option.some.inj h⟩
  | inf | qnan | snan => cases h

/-- Numbers compare by value. -/
theorem Fp.relate_numbers {x y : Fp} {v w : Rat} (hx : fpValue x = some v) (hy : fpValue y = some w) :
    Fp.relate x y = { less := v < w, equal := v = w, unordered := false } := by
  obtain ⟨a, m, e, hxp, rfl⟩ := Fp.parts_of_fpValue hx
  obtain ⟨b, n, g, hyp, rfl⟩ := Fp.parts_of_fpValue hy
  have hparts : Fp.relate x y =
      { less := scaled a m e (min e g) < scaled b n g (min e g)
        equal := scaled a m e (min e g) = scaled b n g (min e g), unordered := false } := by
    cases x <;> cases hxp <;> cases y <;> cases hyp <;> rfl
  rw [hparts]
  simp only [scaled_lt_iff, scaled_eq_iff]

theorem Fp.relate_inf_number (neg : Bool) {x : Fp} {v : Rat} (h : fpValue x = some v) :
    Fp.relate (.inf neg) x = { less := neg, equal := false, unordered := false } := by
  cases x <;> cases h <;> rfl

theorem Fp.relate_number_inf (neg : Bool) {x : Fp} {v : Rat} (h : fpValue x = some v) :
    Fp.relate x (.inf neg) = { less := !neg, equal := false, unordered := false } := by
  cases x <;> cases h <;> rfl

theorem Fp.relate_unordered_iff (x y : Fp) :
    (Fp.relate x y).unordered = true ↔ x ∈ [.snan, .qnan] ∨ y ∈ [.snan, .qnan] := by
  cases x <;> cases y <;> simp [Fp.relate, Fp.parts]

/-- What a compare with the condition `cond` does: the instruction records the cause and sets the condition code, or
traps. -/
def ComparesBy (i : Instr) (s : State) (fmt : FpFormat) (cond : BitVec 4) (ft fs : FprNum) (cc : BitVec 3) : Prop :=
  let x := fmt.operand s fs
  let y := fmt.operand s ft
  let cause := if compareInvalid cond x y then causeV else causeNone
  (fpTraps s.fcr31 cause = false → ∃ bits : BitVec 8,
    (∀ j < 8, bits.getLsbD j = if j = cc.toNat then compareTrue cond x y else s.fcr31.cc.getLsbD j) ∧
    SetsFcr31 i s { fcrAfter s.fcr31 cause with cc := bits }) ∧
  (fpTraps s.fcr31 cause = true →
    exec i s = .next (takeException .floatingPoint (s.setFcr31 { s.fcr31 with cause := cause })))

theorem comparesBy_of_fpFinish {fmt : FpFormat} {cond : BitVec 4} {ft fs : FprNum} {cc : BitVec 3}
    (h : exec i s = fpFinish s (if compareInvalid cond (fmt.operand s fs) (fmt.operand s ft) then causeV else causeNone)
      fun t => t.setFcr31 (t.fcr31.setCondition cc (compareTrue cond (fmt.operand s fs) (fmt.operand s ft)))) :
    ComparesBy i s fmt cond ft fs cc := by
  refine ⟨fun hc => ⟨_, fun j hj => Fcr31.getLsbD_setCondition _ cc _ j hj, ?_⟩,
    fun hc => h.trans (fpFinish_trap hc _)⟩
  exact setsFcr31_of (h.trans (fpFinish_of hc _))

/-- Settles O56: each compare is its gates around `fpCompare` of its format and condition; the relation is that of the
values. -/
theorem fpCompares : Obligations.FpCompares := by
  intro s ft fs cc ⟨hcu1, hodd⟩ hcc
  have compares {i fmt cond} (h : exec i s = needFpu s (fpCompare fmt cond s ft fs cc)) :
      ComparesBy i s fmt cond ft fs cc :=
    comparesBy_of_fpFinish (h.trans ((needFpu_of hcu1 _).trans ((needCc_of hcc _).trans (needEvenFp_of hodd _))))
  intro Compares
  refine ⟨compares rfl, compares rfl, compares rfl, compares rfl, compares rfl, compares rfl, compares rfl,
    compares rfl, compares rfl, compares rfl, compares rfl, compares rfl, compares rfl, compares rfl, compares rfl,
    compares rfl, compares rfl, compares rfl, compares rfl, compares rfl, compares rfl, compares rfl, compares rfl,
    compares rfl, compares rfl, compares rfl, compares rfl, compares rfl, compares rfl, compares rfl, compares rfl,
    compares rfl, fun a b => ⟨Fp.relate_unordered_iff a b, fun x y hx hy => ?numbers⟩, fun neg neg' => rfl,
    fun neg x v hv => ⟨Fp.relate_inf_number neg hv, Fp.relate_number_inf neg hv⟩⟩
  case numbers => rw [Fp.relate_numbers hx hy]; simp

end Sys2Proof.Machine
end

section
/-! O58: rounding. `RoundsTo` says that an integer is the neighbour that a mode selects; `Rounding.drop` has it for the
bits that it drops, and rounding to a format or to an integer inherits it at its own unit. -/

open Sys2Proof

namespace Sys2Proof.Machine

/-! ## The neighbour that a mode selects (47_fpu_arith.md R857) -/

/-- The mode rounds a number of this sign toward zero. -/
def Rounding.Truncates (mode : Rounding) (neg : Bool) : Prop :=
  mode = .toZero ∨ (mode = .up ∧ neg = true) ∨ (mode = .down ∧ neg = false)

/-- The mode rounds a number of this sign away from zero. -/
def Rounding.Enlarges (mode : Rounding) (neg : Bool) : Prop :=
  (mode = .up ∧ neg = false) ∨ (mode = .down ∧ neg = true)

/-- `q` is the integer that `mode` selects for a number of sign `neg` and magnitude `x`. -/
structure RoundsTo (mode : Rounding) (neg : Bool) (x : Rat) (q : Nat) : Prop where
  truncated : mode.Truncates neg → (q : Rat) ≤ x ∧ x < q + 1
  enlarged : mode.Enlarges neg → x ≤ q ∧ (q : Rat) - 1 < x
  nearest : mode = .nearest → |(q : Rat) - x| ≤ 1 / 2 ∧ (|(q : Rat) - x| = 1 / 2 → q % 2 = 0)

section Neighbour
variable {mode : Rounding} {neg : Bool} {x : Rat} {q : Nat}

/-- An integer is its own neighbour. -/
theorem RoundsTo.of_eq (h : (q : Rat) = x) : RoundsTo mode neg x q where
  truncated _ := ⟨h.le, by linarith⟩
  enlarged _ := ⟨h.ge, by linarith⟩
  nearest _ := by norm_num [h]

/-- What rounds to an even integer rounds, at twice the unit, to its half. -/
theorem RoundsTo.half (h : RoundsTo mode neg x (2 * q)) : RoundsTo mode neg (x / 2) q where
  truncated hm := by
    obtain ⟨hle, hlt⟩ := h.truncated hm
    push_cast at hle hlt
    constructor <;> linarith
  enlarged hm := by
    obtain ⟨hle, hlt⟩ := h.enlarged hm
    push_cast at hle hlt
    constructor <;> linarith
  nearest hm := by
    have hle := (h.nearest hm).1
    push_cast at hle
    have hhalf : |(q : Rat) - x / 2| = |2 * (q : Rat) - x| / 2 := by
      rw [show (q : Rat) - x / 2 = (2 * q - x) / 2 by ring, abs_div, abs_of_pos (zero_lt_two' Rat)]
    rw [hhalf]
    exact ⟨by linarith, fun heq => by linarith⟩

/-- The lower of two neighbours. -/
theorem RoundsTo.lower (hlo : (q : Rat) ≤ x) (hhi : x < q + 1) (hup : mode.Enlarges neg → x = q)
    (hnear : mode = .nearest → x ≤ q + 1 / 2 ∧ (x = q + 1 / 2 → q % 2 = 0)) : RoundsTo mode neg x q where
  truncated _ := ⟨hlo, hhi⟩
  enlarged hm := by
    have heq := hup hm
    constructor <;> linarith
  nearest hm := by
    obtain ⟨hle, htie⟩ := hnear hm
    rw [abs_sub_comm, abs_of_nonneg (sub_nonneg.2 hlo)]
    exact ⟨by linarith, fun heq => htie (by linarith)⟩

/-- The upper of two neighbours. -/
theorem RoundsTo.upper (hlo : (q : Rat) < x) (hhi : x < q + 1) (hdown : ¬ mode.Truncates neg)
    (hnear : mode = .nearest → (q : Rat) + 1 / 2 ≤ x ∧ (x = q + 1 / 2 → q % 2 = 1)) :
    RoundsTo mode neg x (q + 1) where
  truncated hm := absurd hm hdown
  enlarged _ := by
    push_cast
    constructor <;> linarith
  nearest hm := by
    obtain ⟨hle, htie⟩ := hnear hm
    push_cast
    rw [abs_of_nonneg (sub_nonneg.2 hhi.le)]
    refine ⟨by linarith, fun heq => ?_⟩
    have hodd := htie (by linarith)
    omega

end Neighbour

/-! ## Dropping bits -/

/-- The number `t` that a mantissa with its sticky mark stands for. -/
structure StandsFor (m : Nat) (sticky : Bool) (t : Rat) : Prop where
  le : (m : Rat) ≤ t
  lt : t < m + 1
  exact_iff : sticky = false ↔ t = m

theorem StandsFor.of_eq (m : Nat) : StandsFor m false m := ⟨le_rfl, lt_add_one _, by simp⟩

/-- The tests of `Rounding.drop`: whether bits are lost. -/
def dropsInexact (m d : Nat) (sticky : Bool) : Bool := m % 2 ^ d != 0 || sticky
/-- Whether the number lies above the middle of the two neighbours. -/
def dropsAbove (m d : Nat) (sticky : Bool) : Bool :=
  2 ^ d < 2 * (m % 2 ^ d) || (2 ^ d == 2 * (m % 2 ^ d) && sticky && 0 < d)
/-- Whether it is the middle. -/
def dropsTie (m d : Nat) (sticky : Bool) : Bool := 2 ^ d == 2 * (m % 2 ^ d) && !sticky && 0 < d

/-- Whether the mode takes the upper neighbour. -/
def Rounding.takesUpper (mode : Rounding) (neg : Bool) (m d : Nat) (sticky : Bool) : Bool :=
  match mode with
  | .nearest => dropsAbove m d sticky || (dropsTie m d sticky && m / 2 ^ d % 2 == 1)
  | .toZero => false
  | .up => dropsInexact m d sticky && !neg
  | .down => dropsInexact m d sticky && neg

theorem Rounding.drop_eq (mode : Rounding) (neg : Bool) (m d : Nat) (sticky : Bool) :
    mode.drop neg m d sticky =
      ⟨if mode.takesUpper neg m d sticky then m / 2 ^ d + 1 else m / 2 ^ d, dropsInexact m d sticky⟩ := by
  cases mode <;> rfl

/-- The upper neighbour is taken only where bits are lost. -/
theorem dropsInexact_of_takesUpper {mode : Rounding} {neg : Bool} {m d : Nat} {sticky : Bool}
    (h : mode.takesUpper neg m d sticky = true) : dropsInexact m d sticky = true := by
  have hpos := Nat.two_pow_pos d
  cases mode with
  | toZero => cases h
  | up | down => exact (Bool.and_eq_true_iff.1 h).1
  | nearest =>
    simp only [Rounding.takesUpper, dropsAbove, dropsTie, Bool.or_eq_true, Bool.and_eq_true, decide_eq_true_eq,
      beq_iff_eq] at h
    rw [dropsInexact, Bool.or_eq_true, bne_iff_ne]
    omega

/-- What is dropped, as a fraction of the unit. -/
theorem dropped_fraction (m d : Nat) (t : Rat) :
    t / 2 ^ d - (m / 2 ^ d : Nat) = ((m % 2 ^ d : Nat) + (t - m)) / 2 ^ d := by
  have hdiv : (m : Rat) = 2 ^ d * (m / 2 ^ d : Nat) + (m % 2 ^ d : Nat) := by
    exact_mod_cast (Nat.div_add_mod m (2 ^ d)).symm
  rw [eq_div_iff (by positivity), sub_mul, div_mul_cancel₀ _ (by positivity)]
  linarith

section Drop
variable {m : Nat} {sticky : Bool} {t : Rat} (h : StandsFor m sticky t) (d : Nat)
include h

theorem StandsFor.sticky_iff : sticky = true ↔ (m : Rat) < t := by
  rw [← Bool.not_eq_false, h.exact_iff, h.le.lt_iff_ne', ne_eq]

theorem StandsFor.quotient_le : ((m / 2 ^ d : Nat) : Rat) ≤ t / 2 ^ d := by
  rw [← sub_nonneg, dropped_fraction]
  exact div_nonneg (add_nonneg (Nat.cast_nonneg _) (sub_nonneg.2 h.le)) (by positivity)

theorem StandsFor.lt_quotient_succ : t / 2 ^ d < (m / 2 ^ d : Nat) + 1 := by
  have hrest : ((m % 2 ^ d : Nat) : Rat) + 1 ≤ 2 ^ d := by exact_mod_cast Nat.mod_lt m (Nat.two_pow_pos d)
  have hlt := h.lt
  rw [← sub_lt_iff_lt_add', dropped_fraction, div_lt_one (by positivity)]
  linarith

/-- Bits are lost exactly when the number lies above the lower neighbour. -/
theorem StandsFor.dropsInexact_iff : dropsInexact m d sticky = true ↔ ((m / 2 ^ d : Nat) : Rat) < t / 2 ^ d := by
  have hle := h.le
  have hrest : (0 : Rat) ≤ (m % 2 ^ d : Nat) := Nat.cast_nonneg _
  have hfraction : ((m / 2 ^ d : Nat) : Rat) < t / 2 ^ d ↔ 0 < (m % 2 ^ d : Nat) + (t - m) := by
    rw [← sub_pos, dropped_fraction, div_pos_iff_of_pos_right (by positivity)]
  rw [hfraction, dropsInexact, Bool.or_eq_true, h.sticky_iff, bne_iff_ne, ← Nat.cast_ne_zero (R := Rat)]
  constructor
  · rintro (hne | hlt)
    · linarith [hrest.lt_of_ne' hne]
    · linarith
  · intro hpos
    by_cases hzero : ((m % 2 ^ d : Nat) : Rat) = 0
    · right; linarith
    · exact .inl hzero

/-- Twice what is dropped against the unit: below the middle a sticky mark does not reach it. -/
theorem StandsFor.lt_middle (hd : sticky = true → 0 < d) (hlt : 2 * (m % 2 ^ d) < 2 ^ d) :
    2 * ((m % 2 ^ d : Nat) : Rat) + 2 * (t - m) < 2 ^ d := by
  cases hs : sticky with
  | false =>
    rw [h.exact_iff.1 hs, sub_self, mul_zero, add_zero]
    exact_mod_cast hlt
  | true =>
    obtain ⟨k, rfl⟩ := Nat.exists_eq_add_of_lt (hd hs)
    have hgap : 2 * (m % 2 ^ (0 + k + 1)) + 2 ≤ 2 ^ (0 + k + 1) := by rw [pow_succ] at hlt ⊢; omega
    have hgap' : 2 * ((m % 2 ^ (0 + k + 1) : Nat) : Rat) + 2 ≤ 2 ^ (0 + k + 1) := by exact_mod_cast hgap
    linarith [h.lt]

/-- The tests of `Rounding.drop` on the middle, in units of the last bit that is dropped. -/
theorem StandsFor.drops_iff (hd : sticky = true → 0 < d) :
    (dropsAbove m d sticky = true ↔ (2 : Rat) ^ d < 2 * (m % 2 ^ d : Nat) + 2 * (t - m)) ∧
      (dropsTie m d sticky = true ↔ (2 : Rat) ^ d = 2 * (m % 2 ^ d : Nat) + 2 * (t - m)) := by
  have hle := h.le
  unfold dropsAbove dropsTie
  rcases lt_trichotomy (2 ^ d) (2 * (m % 2 ^ d)) with hgt | heq | hlt
  · have hcast : (2 : Rat) ^ d < 2 * (m % 2 ^ d : Nat) := by exact_mod_cast hgt
    have hne : 2 ^ d ≠ 2 * (m % 2 ^ d) := hgt.ne
    simp only [hgt, decide_true, Bool.true_or, true_iff, beq_false_of_ne hne, Bool.false_and, Bool.false_eq_true,
      false_iff]
    exact ⟨by linarith, by linarith⟩
  · have hcast : (2 : Rat) ^ d = 2 * (m % 2 ^ d : Nat) := by exact_mod_cast heq
    have hpos : 0 < d := Nat.pos_of_ne_zero fun hzero => by subst hzero; omega
    have hne : ¬ 2 ^ d < 2 * (m % 2 ^ d) := heq.not_lt
    rw [hcast, lt_add_iff_pos_right, left_eq_add]
    simp only [hne, hpos, beq_iff_eq.2 heq, decide_true, decide_false, Bool.false_or, Bool.true_and, Bool.and_true,
      Bool.not_eq_true', h.sticky_iff, h.exact_iff]
    constructor
    · constructor <;> intro h <;> linarith
    · constructor <;> intro h <;> linarith
  · have hcast := h.lt_middle d hd hlt
    have hne : 2 ^ d ≠ 2 * (m % 2 ^ d) := hlt.ne'
    simp only [hlt.not_gt, decide_false, Bool.false_or, beq_false_of_ne hne, Bool.false_and, Bool.false_eq_true,
      false_iff]
    exact ⟨by linarith, by linarith⟩

theorem StandsFor.dropsAbove_iff (hd : sticky = true → 0 < d) :
    dropsAbove m d sticky = true ↔ (m / 2 ^ d : Nat) + 1 / 2 < t / 2 ^ d := by
  rw [(h.drops_iff d hd).1, ← lt_sub_iff_add_lt', dropped_fraction, div_lt_div_iff₀ (by norm_num) (by positivity)]
  constructor <;> intro h <;> linarith

theorem StandsFor.dropsTie_iff (hd : sticky = true → 0 < d) :
    dropsTie m d sticky = true ↔ t / 2 ^ d = (m / 2 ^ d : Nat) + 1 / 2 := by
  rw [(h.drops_iff d hd).2, ← sub_eq_iff_eq_add' (a := t / 2 ^ d), dropped_fraction,
    div_eq_div_iff (by positivity) (by norm_num)]
  constructor <;> intro h <;> linarith

/-- `Rounding.drop` selects the neighbour of its mode. -/
theorem StandsFor.roundsTo_drop (hd : sticky = true → 0 < d) (mode : Rounding) (neg : Bool) :
    RoundsTo mode neg (t / 2 ^ d) (mode.drop neg m d sticky).q := by
  have hlo := h.quotient_le d
  have hhi := h.lt_quotient_succ d
  have hinexact := h.dropsInexact_iff d
  have habove := h.dropsAbove_iff d hd
  have htie := h.dropsTie_iff d hd
  rw [Rounding.drop_eq]
  dsimp only
  split
  · next hup =>
    refine .upper (hinexact.1 (dropsInexact_of_takesUpper hup)) hhi ?_ ?_
    · rintro (rfl | ⟨rfl, rfl⟩ | ⟨rfl, rfl⟩) <;> simp [Rounding.takesUpper] at hup
    · rintro rfl
      rw [Rounding.takesUpper, Bool.or_eq_true, Bool.and_eq_true, habove, htie, beq_iff_eq] at hup
      rcases hup with hgt | ⟨heq, hodd⟩
      · exact ⟨hgt.le, fun heq => absurd heq hgt.ne'⟩
      · exact ⟨heq.ge, fun _ => hodd⟩
  · next hup =>
    refine .lower hlo hhi ?_ ?_
    · intro hm
      have hnot : dropsInexact m d sticky = false := by
        rcases hm with ⟨rfl, rfl⟩ | ⟨rfl, rfl⟩ <;> simpa [Rounding.takesUpper] using hup
      rw [← Bool.not_eq_true, hinexact, not_lt] at hnot
      exact hnot.antisymm hlo
    · rintro rfl
      rw [Rounding.takesUpper, Bool.or_eq_true, Bool.and_eq_true, habove, htie, beq_iff_eq] at hup
      push Not at hup
      exact ⟨hup.1, fun heq => by have := hup.2 heq; omega⟩

/-- What is dropped changes the value exactly when `Rounding.drop` says so. -/
theorem StandsFor.drop_inexact_iff (mode : Rounding) (neg : Bool) :
    (mode.drop neg m d sticky).inexact = true ↔ ((mode.drop neg m d sticky).q : Rat) ≠ t / 2 ^ d := by
  have hinexact := h.dropsInexact_iff d
  rw [Rounding.drop_eq]
  dsimp only
  rw [hinexact]
  split
  · next hup =>
    push_cast
    exact iff_of_true (hinexact.1 (dropsInexact_of_takesUpper hup)) (h.lt_quotient_succ d).ne'
  · exact (h.quotient_le d).lt_iff_ne

end Drop

/-! ## Rounding to a format (R855) -/

/-- `x` is the number of exactly p bits to which `mode` rounds a number of sign `neg` and magnitude `r`. -/
structure NormalizesTo (f : FpFormat) (mode : Rounding) (neg : Bool) (r : Rat) (x : Normalized) : Prop where
  low : 2 ^ (f.precision - 1) ≤ x.q
  high : x.q < 2 ^ f.precision
  inexact_iff : x.inexact = true ↔ (x.q : Rat) ≠ r / 2 ^ x.e
  roundsTo : RoundsTo mode neg (r / 2 ^ x.e) x.q

theorem FpFormat.precision_pos (f : FpFormat) : 0 < f.precision := by cases f <;> decide

section Normalize
variable (f : FpFormat) (mode : Rounding) (neg : Bool) {m : Nat} (e : Int)

/-- A mantissa of at most p bits is only shifted. -/
theorem FpFormat.normalize_of_le (hn : m.log2 + 1 ≤ f.precision) :
    f.normalize mode neg m e false =
      ⟨m * 2 ^ (f.precision - (m.log2 + 1)), e - (f.precision - (m.log2 + 1) : Nat), false⟩ := by
  have hexact : dropsInexact m 0 false = false := by simp [dropsInexact, Nat.mod_one]
  have hdrop : mode.drop neg m 0 false = ⟨m, false⟩ := by
    have hup : mode.takesUpper neg m 0 false = false :=
      Bool.eq_false_of_not_eq_true fun hup => by simp [dropsInexact_of_takesUpper hup] at hexact
    rw [Rounding.drop_eq, hup, hexact]
    simp
  have hlt : m * 2 ^ (f.precision - (m.log2 + 1)) < 2 ^ f.precision := by
    calc m * 2 ^ (f.precision - (m.log2 + 1))
        < 2 ^ (m.log2 + 1) * 2 ^ (f.precision - (m.log2 + 1)) :=
          Nat.mul_lt_mul_of_pos_right Nat.lt_log2_self (Nat.two_pow_pos _)
      _ = 2 ^ f.precision := by rw [← pow_add, Nat.add_sub_cancel' hn]
  unfold FpFormat.normalize
  dsimp only
  rw [Nat.sub_eq_zero_of_le hn, hdrop, if_neg hlt.ne]
  simp

/-- The bits above p are dropped; a carry out of the top leaves the least mantissa of p bits. -/
theorem FpFormat.normalize_of_lt (sticky : Bool) (hn : f.precision < m.log2 + 1) :
    let r := mode.drop neg m (m.log2 + 1 - f.precision) sticky
    let e' := e + (m.log2 + 1 - f.precision : Nat)
    f.normalize mode neg m e sticky =
      if r.q = 2 ^ f.precision then ⟨2 ^ (f.precision - 1), e' + 1, r.inexact⟩ else ⟨r.q, e', r.inexact⟩ := by
  unfold FpFormat.normalize
  dsimp only
  rw [Nat.sub_eq_zero_of_le hn.le, pow_zero, mul_one, Nat.cast_zero, sub_zero]

theorem Rounding.quotient_le_drop (d : Nat) (sticky : Bool) :
    m / 2 ^ d ≤ (mode.drop neg m d sticky).q ∧ (mode.drop neg m d sticky).q ≤ m / 2 ^ d + 1 := by
  rw [Rounding.drop_eq]
  dsimp only
  split <;> omega

theorem FpFormat.normalizesTo_of_le (hm : m ≠ 0) (hn : m.log2 + 1 ≤ f.precision) :
    NormalizesTo f mode neg (m * 2 ^ e) (f.normalize mode neg m e false) := by
  rw [FpFormat.normalize_of_le f mode neg e hn]
  have hbits : f.precision - 1 = m.log2 + (f.precision - (m.log2 + 1)) := by omega
  have hbits' : f.precision = m.log2 + 1 + (f.precision - (m.log2 + 1)) := by omega
  generalize f.precision - (m.log2 + 1) = l at *
  have heq : ((m * 2 ^ l : Nat) : Rat) = m * 2 ^ e / 2 ^ (e - l) := by
    rw [eq_div_iff (two_zpow_pos _).ne']
    push_cast
    rw [mul_assoc, mul_comm ((2 : Rat) ^ l), ← two_zpow_add_nat, sub_add_cancel]
  refine ⟨?_, ?_, by simpa using heq, .of_eq heq⟩
  · rw [hbits, pow_add]
    exact Nat.mul_le_mul_right _ (Nat.log2_self_le hm)
  · rw [hbits', pow_add]
    exact Nat.mul_lt_mul_of_pos_right Nat.lt_log2_self (Nat.two_pow_pos _)

theorem FpFormat.normalizesTo_of_lt {sticky : Bool} {r : Rat} (h : StandsFor m sticky (r / 2 ^ e)) (hm : m ≠ 0)
    (hn : f.precision < m.log2 + 1) : NormalizesTo f mode neg r (f.normalize mode neg m e sticky) := by
  rw [FpFormat.normalize_of_lt f mode neg e sticky hn]
  have hp := f.precision_pos
  have hround := h.roundsTo_drop (m.log2 + 1 - f.precision) (fun _ => Nat.sub_pos_of_lt hn) mode neg
  have hinexact := h.drop_inexact_iff (m.log2 + 1 - f.precision) mode neg
  have hlow : 2 ^ (f.precision - 1) ≤ m / 2 ^ (m.log2 + 1 - f.precision) := by
    have hbits : f.precision - 1 + (m.log2 + 1 - f.precision) = m.log2 := by omega
    rw [Nat.le_div_iff_mul_le (Nat.two_pow_pos _), ← pow_add, hbits]
    exact Nat.log2_self_le hm
  have hhigh : m / 2 ^ (m.log2 + 1 - f.precision) < 2 ^ f.precision := by
    rw [Nat.div_lt_iff_lt_mul (Nat.two_pow_pos _), ← pow_add, Nat.add_sub_cancel' hn.le]
    exact Nat.lt_log2_self
  obtain ⟨hge, hle⟩ := Rounding.quotient_le_drop mode neg (m := m) (m.log2 + 1 - f.precision) sticky
  generalize mode.drop neg m (m.log2 + 1 - f.precision) sticky = x at *
  generalize m.log2 + 1 - f.precision = d at *
  rw [div_div, ← two_zpow_add_nat] at hround hinexact
  split
  · next hcarry =>
    have hdouble : x.q = 2 * 2 ^ (f.precision - 1) := by rw [hcarry, ← pow_succ', Nat.sub_add_cancel hp]
    have hunit : r / 2 ^ (e + d + 1) = r / 2 ^ (e + d) / 2 := by rw [two_zpow_add, zpow_one, div_div]
    rw [hdouble] at hround hinexact
    refine ⟨le_rfl, Nat.pow_lt_pow_right one_lt_two (by omega), ?_, ?_⟩
    · rw [hinexact, hunit, ne_eq, ne_eq, eq_div_iff two_ne_zero]
      push_cast
      rw [mul_comm]
    · rw [hunit]
      exact hround.half
  · next hcarry => exact ⟨hlow.trans hge, (hle.trans hhigh).lt_of_ne hcarry, hinexact, hround⟩

/-- Rounding to p bits selects the neighbour of its mode; a marked mantissa has bits to drop. -/
theorem FpFormat.normalizesTo_normalize {sticky : Bool} {r : Rat} (h : StandsFor m sticky (r / 2 ^ e)) (hm : m ≠ 0)
    (hp : sticky = true → 2 ^ (f.precision + 1) ≤ m) :
    NormalizesTo f mode neg r (f.normalize mode neg m e sticky) := by
  rcases lt_or_ge f.precision (m.log2 + 1) with hn | hn
  · exact f.normalizesTo_of_lt mode neg e h hm hn
  · have hsticky : sticky = false := Bool.eq_false_of_not_eq_true fun hs => by
      have hlog : f.precision + 1 ≤ m.log2 := (Nat.le_log2 hm).2 (hp hs)
      omega
    have hr : r = m * 2 ^ e := (div_eq_iff (two_zpow_pos e).ne').1 (h.exact_iff.1 hsticky)
    rw [hsticky, hr]
    exact f.normalizesTo_of_le mode neg e hm hn

end Normalize

/-! ## Patterns (R859) -/

/-- What a sign, a biased exponent and a fraction are decoded to. -/
def FpFormat.decodeFields (f : FpFormat) (neg : Bool) (e frac : Nat) : Fp :=
  if e = f.expOnes then
    if frac = 0 then .inf neg else if 2 ^ (f.fracBits - 1) ≤ frac then .snan else .qnan
  else if e = 0 then
    if frac = 0 then .finite neg 0 0 else .denormal neg frac (f.emin - f.fracBits)
  else .finite neg (2 ^ f.fracBits + frac) (e - f.emax - f.fracBits)

theorem FpFormat.decode_eq (f : FpFormat) (v : Dword) :
    f.decode v = f.decodeFields (decide (v.toNat / 2 ^ (f.fracBits + f.expBits) % 2 = 1))
      (v.toNat / 2 ^ f.fracBits % 2 ^ f.expBits) (v.toNat % 2 ^ f.fracBits) := rfl

theorem FpFormat.toNat_pack (f : FpFormat) (neg : Bool) {e frac : Nat} (he : e < 2 ^ f.expBits)
    (hfrac : frac < 2 ^ f.fracBits) :
    (f.pack neg e frac).toNat = ((if neg then 2 ^ f.expBits else 0) + e) * 2 ^ f.fracBits + frac := by
  have hsign : (if neg then 2 ^ f.expBits else 0) + e < 2 ^ (f.expBits + 1) := by
    rw [pow_succ]
    split <;> omega
  have hwidth : 2 ^ (f.expBits + 1) * 2 ^ f.fracBits ≤ 2 ^ 64 := by cases f <;> decide
  have hbound := Nat.mul_le_mul_right (2 ^ f.fracBits) (Nat.succ_le_of_lt hsign)
  rw [Nat.succ_mul] at hbound
  rw [FpFormat.pack, BitVec.toNat_ofNat, Nat.mod_eq_of_lt (by omega)]

theorem FpFormat.decode_pack (f : FpFormat) (neg : Bool) {e frac : Nat} (he : e < 2 ^ f.expBits)
    (hfrac : frac < 2 ^ f.fracBits) : f.decode (f.pack neg e frac) = f.decodeFields neg e frac := by
  have hhigh : (f.pack neg e frac).toNat / 2 ^ f.fracBits = (if neg then 2 ^ f.expBits else 0) + e := by
    rw [f.toNat_pack neg he hfrac, mul_comm, Nat.mul_add_div (Nat.two_pow_pos _), Nat.div_eq_of_lt hfrac, add_zero]
  have hlow : (f.pack neg e frac).toNat % 2 ^ f.fracBits = frac := by
    rw [f.toNat_pack neg he hfrac, mul_comm, Nat.mul_add_mod, Nat.mod_eq_of_lt hfrac]
  rw [f.decode_eq, hlow, pow_add, ← Nat.div_div_eq_div_mul, hhigh]
  cases neg with
  | true => simp [Nat.mod_eq_of_lt he, Nat.div_eq_of_lt he]
  | false => simp [Nat.mod_eq_of_lt he, Nat.div_eq_of_lt he]

theorem FpFormat.expOnes_eq (f : FpFormat) : (f.expOnes : Int) = 2 * f.emax + 1 := by cases f <;> decide

theorem FpFormat.expOnes_lt (f : FpFormat) : f.expOnes < 2 ^ f.expBits := by cases f <;> decide

/-- A number of p bits whose exponent is in range is what its pattern decodes to. -/
theorem FpFormat.decode_packNormal (f : FpFormat) (neg : Bool) {x : Normalized} (hlow : 2 ^ (f.precision - 1) ≤ x.q)
    (hhigh : x.q < 2 ^ f.precision) (hmin : f.emin ≤ f.exponent x) (hmax : f.exponent x ≤ f.emax) :
    f.decode (f.packNormal neg x) = .finite neg x.q x.e := by
  have hones := f.expOnes_eq
  have hlt := f.expOnes_lt
  have hlow' : 2 ^ f.fracBits ≤ x.q := hlow
  have hhigh' : x.q < 2 * 2 ^ f.fracBits := by
    rw [FpFormat.fracBits, ← pow_succ', Nat.sub_add_cancel f.precision_pos]
    exact hhigh
  have hbiased : ((f.exponent x + f.emax).toNat : Int) = f.exponent x + f.emax := by
    rw [FpFormat.emin] at hmin
    omega
  rw [FpFormat.emin] at hmin
  rw [FpFormat.packNormal, f.decode_pack neg (by omega) (by omega), FpFormat.decodeFields, if_neg (by omega),
    if_neg (by omega), hbiased, Nat.add_sub_cancel' hlow', FpFormat.exponent]
  congr 1
  omega

/-! ## Rounding to an integer (R880) -/

/-- The magnitude is rounded to the neighbour of the mode and the sign is put back. -/
theorem roundToInt_roundsTo (mode : Rounding) (neg : Bool) (m : Nat) (e : Int) :
    ∃ q : Nat, (roundToInt mode neg m e).1 = (if neg then -1 else 1) * (q : Int) ∧
      RoundsTo mode neg (ratOf false m e) q ∧
      ((roundToInt mode neg m e).2 = true ↔ (q : Rat) ≠ ratOf false m e) := by
  have h := StandsFor.of_eq (m * 2 ^ e.toNat)
  have hvalue : ((m * 2 ^ e.toNat : Nat) : Rat) / 2 ^ (-e).toNat = ratOf false m e := by
    rw [ratOf_false, two_zpow_eq_div]
    push_cast
    ring
  rw [← hvalue]
  exact ⟨_, rfl, h.roundsTo_drop _ nofun mode neg, h.drop_inexact_iff _ mode neg⟩

/-- The modes on a signed number, from its magnitude. -/
theorem roundToInt_spec (mode : Rounding) (neg : Bool) (m : Nat) (e : Int) :
    let v := ratOf neg m e
    let z := roundToInt mode neg m e
    (z.2 = true ↔ (z.1 : Rat) ≠ v) ∧
    (mode = .toZero → |(z.1 : Rat)| ≤ |v| ∧ |v| < |(z.1 : Rat)| + 1 ∧ 0 ≤ z.1 * v) ∧
    (mode = .up → v ≤ z.1 ∧ (z.1 : Rat) < v + 1) ∧ (mode = .down → z.1 ≤ v ∧ v < (z.1 : Rat) + 1) ∧
    (mode = .nearest → |(z.1 : Rat) - v| ≤ 1 / 2 ∧ (|(z.1 : Rat) - v| = 1 / 2 → z.1 % 2 = 0)) := by
  obtain ⟨q, hz, hround, hinexact⟩ := roundToInt_roundsTo mode neg m e
  have hpos := ratOf_false_nonneg m e
  have hq : (0 : Rat) ≤ q := q.cast_nonneg
  dsimp only
  rw [hinexact, hz, abs_ratOf]
  cases neg with
  | false =>
    simp only [Bool.false_eq_true, if_false, one_mul, Int.cast_natCast, abs_of_nonneg hq]
    refine ⟨trivial, fun hm => ?_, fun hm => ?_, fun hm => ?_, fun hm => ?_⟩
    · obtain ⟨hle, hlt⟩ := hround.truncated (.inl hm)
      exact ⟨hle, hlt, mul_nonneg hq hpos⟩
    · obtain ⟨hle, hlt⟩ := hround.enlarged (.inl ⟨hm, rfl⟩)
      exact ⟨hle, by linarith⟩
    · exact hround.truncated (.inr (.inr ⟨hm, rfl⟩))
    · obtain ⟨hle, htie⟩ := hround.nearest hm
      exact ⟨hle, fun h => by have := htie h; omega⟩
  | true =>
    have htrue : ratOf true m e = -ratOf false m e := ratOf_not false m e
    simp only [if_true, neg_mul, one_mul, Int.cast_neg, Int.cast_natCast, htrue, abs_neg, abs_of_nonneg hq,
      mul_neg, neg_neg, ne_eq, neg_inj]
    refine ⟨trivial, fun hm => ?_, fun hm => ?_, fun hm => ?_, fun hm => ?_⟩
    · obtain ⟨hle, hlt⟩ := hround.truncated (.inl hm)
      exact ⟨hle, hlt, mul_nonneg hq hpos⟩
    · obtain ⟨hle, hlt⟩ := hround.truncated (.inr (.inl ⟨hm, rfl⟩))
      constructor <;> linarith
    · obtain ⟨hle, hlt⟩ := hround.enlarged (.inr ⟨hm, rfl⟩)
      constructor <;> linarith
    · obtain ⟨hle, htie⟩ := hround.nearest hm
      rw [neg_sub_neg, abs_sub_comm]
      exact ⟨hle, fun h => by have := htie h; omega⟩

/-! ## Rounding within the range of the exponent (R854, R855) -/

theorem FpFormat.emin_le_emax (f : FpFormat) : f.emin ≤ f.emax := by cases f <;> decide

section Range
variable (f : FpFormat) (c : Fcr31) (madd neg : Bool) {m : Nat} (e : Int) (sticky : Bool)

theorem fpRound_zero : fpRound f c madd neg 0 e sticky = { cause := causeNone, value := f.zero neg } := rfl

theorem fpRound_of_overflow (hm : m ≠ 0) (h : f.emax < f.exponent (f.normalize c.rounding neg m e sticky)) :
    fpRound f c madd neg m e sticky = { cause := causeOI, value := f.overflowValue c.rounding neg } := by
  rw [fpRound, if_neg hm]
  exact if_pos h

theorem fpRound_of_underflow (hm : m ≠ 0) (h : f.exponent (f.normalize c.rounding neg m e sticky) < f.emin) :
    fpRound f c madd neg m e sticky =
      if c.tinyUnimplemented madd then { cause := causeE, value := 0 }
      else { cause := causeUI, value := f.flushValue c.rounding neg } := by
  rw [fpRound, if_neg hm]
  dsimp only
  rw [if_neg (by have := f.emin_le_emax; omega), if_pos h]

theorem fpRound_of_inRange (hm : m ≠ 0) (hmin : f.emin ≤ f.exponent (f.normalize c.rounding neg m e sticky))
    (hmax : f.exponent (f.normalize c.rounding neg m e sticky) ≤ f.emax) :
    fpRound f c madd neg m e sticky =
      { cause := if (f.normalize c.rounding neg m e sticky).inexact then causeI else causeNone
        value := f.packNormal neg (f.normalize c.rounding neg m e sticky) } := by
  rw [fpRound, if_neg hm]
  dsimp only
  rw [if_neg hmax.not_gt, if_neg hmin.not_gt]

end Range

theorem FpFormat.overflowValue_of (f : FpFormat) {mode : Rounding} {neg : Bool}
    (h : mode = .nearest ∨ mode.Enlarges neg) : f.overflowValue mode neg = f.infinity neg := by
  rcases h with rfl | ⟨rfl, rfl⟩ | ⟨rfl, rfl⟩ <;> rfl

theorem FpFormat.overflowValue_not (f : FpFormat) {mode : Rounding} {neg : Bool}
    (h : ¬ (mode = .nearest ∨ mode.Enlarges neg)) : f.overflowValue mode neg = f.maxNormal neg := by
  cases mode with
  | nearest => exact absurd (.inl rfl) h
  | toZero => rfl
  | up =>
    cases neg with
    | false => exact absurd (.inr (.inl ⟨rfl, rfl⟩)) h
    | true => rfl
  | down =>
    cases neg with
    | false => rfl
    | true => exact absurd (.inr (.inr ⟨rfl, rfl⟩)) h

theorem FpFormat.flushValue_of (f : FpFormat) {mode : Rounding} {neg : Bool} (h : mode.Enlarges neg) :
    f.flushValue mode neg = f.minNormal neg := by
  rcases h with ⟨rfl, rfl⟩ | ⟨rfl, rfl⟩ <;> rfl

theorem FpFormat.flushValue_not (f : FpFormat) {mode : Rounding} {neg : Bool} (h : ¬ mode.Enlarges neg) :
    f.flushValue mode neg = f.zero neg := by
  cases mode with
  | nearest | toZero => rfl
  | up =>
    cases neg with
    | false => exact absurd (.inl ⟨rfl, rfl⟩) h
    | true => rfl
  | down =>
    cases neg with
    | false => rfl
    | true => exact absurd (.inr ⟨rfl, rfl⟩) h

theorem Fcr31.tinyUnimplemented_iff (c : Fcr31) (madd : Bool) : c.tinyUnimplemented madd = true ↔
    madd = true ∨ c.enables.getLsbD 1 = true ∨ c.enables.getLsbD 0 = true ∨ c.fs = false := by
  simp [Fcr31.tinyUnimplemented, or_assoc]

/-- The neighbour of the mode, in units of the last bit. -/
theorem NormalizesTo.neighbour {f : FpFormat} {mode : Rounding} {neg : Bool} {r : Rat} {x : Normalized}
    (h : NormalizesTo f mode neg r x) :
    let y := ratOf false x.q x.e
    let ulp := ratOf false 1 x.e
    (x.inexact = true ↔ y ≠ r) ∧ (mode.Truncates neg → y ≤ r ∧ r < y + ulp) ∧
      (mode.Enlarges neg → r ≤ y ∧ y - ulp < r) ∧
      (mode = .nearest → |y - r| ≤ ulp / 2 ∧ (|y - r| = ulp / 2 → x.q % 2 = 0)) := by
  have hunit := two_zpow_pos x.e
  have hy : ratOf false x.q x.e = x.q * 2 ^ x.e := ratOf_false _ _
  have hulp : ratOf false 1 x.e = 2 ^ x.e := by rw [ratOf_false, Nat.cast_one, one_mul]
  have hdist : |(x.q : Rat) - r / 2 ^ x.e| = |ratOf false x.q x.e - r| / 2 ^ x.e := by
    rw [hy, ← abs_of_pos hunit, ← abs_div, abs_of_pos hunit, sub_div, mul_div_cancel_right₀ _ hunit.ne']
  dsimp only
  rw [hulp]
  refine ⟨?_, fun hm => ?_, fun hm => ?_, fun hm => ?_⟩
  · rw [h.inexact_iff, hy, ne_eq, ne_eq, eq_div_iff hunit.ne']
  · obtain ⟨hle, hlt⟩ := h.roundsTo.truncated hm
    rw [le_div_iff₀ hunit, ← hy] at hle
    rw [div_lt_iff₀ hunit, add_mul, ← hy, one_mul] at hlt
    exact ⟨hle, hlt⟩
  · obtain ⟨hle, hlt⟩ := h.roundsTo.enlarged hm
    rw [div_le_iff₀ hunit, ← hy] at hle
    rw [lt_div_iff₀ hunit, sub_mul, ← hy, one_mul] at hlt
    exact ⟨hle, hlt⟩
  · obtain ⟨hle, htie⟩ := h.roundsTo.nearest hm
    rw [hdist, div_le_iff₀ hunit, one_div_mul_eq_div] at hle
    rw [hdist, div_eq_iff hunit.ne', one_div_mul_eq_div] at htie
    exact ⟨hle, htie⟩

/-- Settles O58: `normalizesTo_normalize` and `roundToInt_spec` give the neighbours, the four ranges of the exponent the
causes and values. -/
theorem roundingIsCorrect : Obligations.RoundingIsCorrect := by
  refine ⟨?format, roundToInt_spec, ?range, by decide, by decide, by decide, by decide, by decide, by decide,
    by decide, by decide⟩
  case format =>
    intro f mode neg m e sticky r hm hle hlt hexact hp x y ulp
    have hunit := two_zpow_pos e
    rw [ratOf_false] at hle hlt hexact
    push_cast at hlt
    have hstands : StandsFor m sticky (r / 2 ^ e) :=
      ⟨(le_div_iff₀ hunit).2 hle, (div_lt_iff₀ hunit).2 hlt, hexact.trans (div_eq_iff hunit.ne').symm⟩
    have hx := f.normalizesTo_normalize mode neg e hstands hm hp
    obtain ⟨hinexact, htruncated, henlarged, hnearest⟩ := hx.neighbour
    exact ⟨hx.low, hx.high, hinexact, htruncated, henlarged, hnearest, f.decode_packNormal neg hx.low hx.high⟩
  case range =>
    intro f c madd neg m e sticky x r toward
    refine ⟨?_, ?_, ?_, ?_⟩
    · rintro rfl
      rfl
    · exact fun hm => fpRound_of_inRange f c madd neg e sticky hm
    · intro hm hmax
      have hr : r = _ := fpRound_of_overflow f c madd neg e sticky hm hmax
      rw [hr]
      exact ⟨rfl, f.overflowValue_of, f.overflowValue_not⟩
    · intro hm hmin
      have hr : r = _ := fpRound_of_underflow f c madd neg e sticky hm hmin
      rw [hr]
      refine ⟨fun h => ?_, fun hmadd hu hi hfs => ?_⟩
      · rw [if_pos ((c.tinyUnimplemented_iff madd).2 h)]
        rfl
      · rw [if_neg (by rw [c.tinyUnimplemented_iff, hmadd, hu, hi, hfs]; simp)]
        exact ⟨rfl, f.flushValue_of, f.flushValue_not⟩

end Sys2Proof.Machine
end

section
/-! O55: the conversions of the FPU. Each is its gates around FPFinish of a rounding; how a pattern is read follows from
`FpFormat.decodeFields`. -/

open Sys2Proof

namespace Sys2Proof.Machine

variable {s : State} {i : Instr}

/-! ## Results (47_fpu_arith.md R880, R889, R890) -/

theorem fpToFixed_finite (mode : Rounding) (lo hi : Int) (neg : Bool) (m : Nat) (e : Int) :
    fpToFixed mode lo hi (.finite neg m e) =
      if lo ≤ (roundToInt mode neg m e).1 ∧ (roundToInt mode neg m e).1 ≤ hi then
        { cause := if (roundToInt mode neg m e).2 then causeI else causeNone
          value := BitVec.ofInt 64 (roundToInt mode neg m e).1 }
      else { cause := causeE, value := 0 } := by
  rw [fpToFixed]
  by_cases h : lo ≤ (roundToInt mode neg m e).1 ∧ (roundToInt mode neg m e).1 ≤ hi
  · rw [if_pos h]
    exact if_neg (by simpa using ⟨h.2, h.1⟩)
  · rw [if_neg h]
    exact if_pos (by simp; omega)

theorem fpFromLong_eq (f : FpFormat) (c : Fcr31) (z : Int) : fpFromLong f c z =
    if -2 ^ 55 ≤ z ∧ z ≤ 2 ^ 55 - 1 then fpFromInt f c z else { cause := causeE, value := 0 } := by
  rw [fpFromLong]
  split
  · next h => rw [if_neg (by simp at h; omega)]
  · next h => rw [if_pos (by simp at h; omega)]

/-! ## Ends -/

section Ends
variable {fs fd : FprNum} (hcu1 : s.status.cu1 = true) (hodd : [fs, fd].any s.oddFp = false)
include hcu1 hodd

theorem finishes_of_fpToWord {f : FpFormat} {mode : Rounding} (h : exec i s = needFpu s (fpToWord f mode s fs fd)) :
    Finishes i s .single fd (fpToFixed mode (-2 ^ 31) (2 ^ 31 - 1) (f.operand s fs)) :=
  finishes_of_word (h.trans ((needFpu_of hcu1 _).trans (needEvenFp_of hodd _)))

theorem finishes_of_fpToLong (h64 : s.status.ops64 = true) {f : FpFormat} {mode : Rounding}
    (h : exec i s = needFpu s (fpToLong f mode s fs fd)) :
    Finishes i s .double fd (fpToFixed mode (-2 ^ 53) (2 ^ 53 - 1) (f.operand s fs)) :=
  finishes_of_long (h.trans ((needFpu_of hcu1 _).trans ((need64_of h64 _).trans (needEvenFp_of hodd _))))

theorem finishes_of_fpConvert {dst src : FpFormat} (h : exec i s = needFpu s (fpConvert dst src s fs fd)) :
    Finishes i s dst fd (fpFromFp dst s.fcr31 (src.operand s fs)) :=
  finishes_of_needEvenFp hodd (h.trans (needFpu_of hcu1 _))

theorem finishes_of_fpFromWord {dst : FpFormat} (h : exec i s = needFpu s (fpFromWord dst s fs fd)) :
    Finishes i s dst fd (fpFromInt dst s.fcr31 (s.fp fs).lo.toInt) :=
  finishes_of_needEvenFp hodd (h.trans (needFpu_of hcu1 _))

theorem finishes_of_fpFromDword (h64 : s.status.ops64 = true) {dst : FpFormat}
    (h : exec i s = needFpu s (fpFromDword dst s fs fd)) :
    Finishes i s dst fd (fpFromLong dst s.fcr31 (s.fp fs).toDword.toInt) :=
  finishes_of_needEvenFp hodd (h.trans ((needFpu_of hcu1 _).trans (if_pos h64)))

end Ends

/-! ## Exact conversions (R890) -/

/-- A number that fits in the format, its exponent in range, is kept. -/
theorem fpRound_exact (f : FpFormat) (c : Fcr31) (neg : Bool) {m : Nat} {e : Int} (hm : m ≠ 0)
    (hn : m.log2 + 1 ≤ f.precision) (hmin : f.emin ≤ e + m.log2) (hmax : e + m.log2 ≤ f.emax) :
    (fpRound f c false neg m e false).cause = 0 ∧
      fpValue (f.decode (fpRound f c false neg m e false).value) = some (ratOf neg m e) := by
  have hx := f.normalizesTo_of_le c.rounding neg e hm hn
  have hnormal := f.normalize_of_le c.rounding neg e hn
  have hinexact : (f.normalize c.rounding neg m e false).inexact = false := by rw [hnormal]
  have hexp : f.exponent (f.normalize c.rounding neg m e false) = e + m.log2 := by
    rw [hnormal, FpFormat.exponent, FpFormat.fracBits]
    dsimp only
    omega
  have hvalue : ratOf false (f.normalize c.rounding neg m e false).q (f.normalize c.rounding neg m e false).e =
      ratOf false m e := by
    rw [ratOf_false m]
    exact not_not.1 (hx.neighbour.1.not.1 (by rw [hinexact]; decide))
  rw [← hexp] at hmin hmax
  rw [fpRound_of_inRange f c false neg e false hm hmin hmax, hinexact, f.decode_packNormal neg hx.low hx.high hmin hmax]
  refine ⟨rfl, congrArg some ?_⟩
  cases neg with
  | false => exact hvalue
  | true => exact (ratOf_not false _ _).trans ((congrArg Neg.neg hvalue).trans (ratOf_not false m e).symm)

/-- The exact zero. -/
theorem fpRound_zero_exact (f : FpFormat) (c : Fcr31) (neg : Bool) (e : Int) :
    (fpRound f c false neg 0 e false).cause = 0 ∧
      fpValue (f.decode (fpRound f c false neg 0 e false).value) = some (ratOf neg 0 e) := by
  have hzero : f.decode (f.zero neg) = .finite neg 0 0 := by
    rw [FpFormat.zero, f.decode_pack neg (Nat.two_pow_pos _) (Nat.two_pow_pos _)]
    cases f <;> rfl
  rw [fpRound_zero]
  exact ⟨rfl, by rw [hzero, fpValue, ratOf_zero, ratOf_zero]⟩

/-- The mantissa and the exponent of a number that was decoded. -/
theorem FpFormat.decode_finite_bounds {f : FpFormat} {v : Dword} {neg : Bool} {m : Nat} {e : Int}
    (h : f.decode v = .finite neg m e) :
    m < 2 ^ f.precision ∧ (m ≠ 0 → f.emin - f.fracBits ≤ e ∧ e ≤ f.emax - f.fracBits) := by
  have hfrac : v.toNat % 2 ^ f.fracBits < 2 ^ f.fracBits := Nat.mod_lt _ (Nat.two_pow_pos _)
  have hexp : v.toNat / 2 ^ f.fracBits % 2 ^ f.expBits < 2 ^ f.expBits := Nat.mod_lt _ (Nat.two_pow_pos _)
  have hones : f.expOnes = 2 ^ f.expBits - 1 := rfl
  have hones' := f.expOnes_eq
  have hp : 2 ^ f.precision = 2 * 2 ^ f.fracBits := by
    rw [FpFormat.fracBits, ← pow_succ', Nat.sub_add_cancel f.precision_pos]
  have hmin : f.emin = 1 - f.emax := rfl
  rw [f.decode_eq, FpFormat.decodeFields] at h
  generalize v.toNat / 2 ^ f.fracBits % 2 ^ f.expBits = b at *
  generalize v.toNat % 2 ^ f.fracBits = a at *
  split at h
  · split at h
    · cases h
    · split at h <;> cases h
  · split at h
    · split at h
      · cases h
        exact ⟨Nat.two_pow_pos _, fun h => absurd rfl h⟩
      · cases h
    · cases h
      omega

/-- From S or W to D. -/
theorem fpRound_double_exact (c : Fcr31) (neg : Bool) (m : Nat) (k : Int)
    (h : (∃ v, FpFormat.single.decode v = .finite neg m k) ∨ (k = 0 ∧ m ≤ 2 ^ 31)) :
    (fpRound .double c false neg m k false).cause = 0 ∧
      fpValue (FpFormat.double.decode (fpRound .double c false neg m k false).value) = some (ratOf neg m k) := by
  by_cases hm : m = 0
  · subst hm
    exact fpRound_zero_exact .double c neg k
  · have hbounds : m < 2 ^ 32 ∧ -149 ≤ k ∧ k ≤ 104 := by
      rcases h with ⟨v, hv⟩ | ⟨rfl, hle⟩
      · obtain ⟨hlt, hexp⟩ := FpFormat.decode_finite_bounds hv
        obtain ⟨hmin, hmax⟩ := hexp hm
        exact ⟨hlt.trans (by decide), hmin, hmax⟩
      · omega
    have hlog : m.log2 < 32 := (Nat.log2_lt hm).2 hbounds.1
    have hp : FpFormat.double.precision = 53 := rfl
    have hmin : FpFormat.double.emin = -1022 := rfl
    have hmax : FpFormat.double.emax = 1023 := rfl
    exact fpRound_exact .double c neg hm (by omega) (by omega) (by omega)

/-! ## How a pattern is read (R859) -/

theorem FpFormat.decode_fields (f : FpFormat) (v : Dword) :
    f.decode v = f.decodeFields (v.getLsbD (f.fracBits + f.expBits)) (v.extractLsb' f.fracBits f.expBits).toNat
      (v.extractLsb' 0 f.fracBits).toNat := by
  rw [f.decode_eq, BitVec.extractLsb'_toNat, BitVec.extractLsb'_toNat, Nat.shiftRight_eq_div_pow, Nat.shiftRight_zero,
    BitVec.getLsbD, Nat.testBit_eq_decide_div_mod_eq]

/-- The four kinds of pattern: all ones, zero, denormalized and normalized. -/
theorem FpFormat.decodeFields_reads (f : FpFormat) (neg : Bool) (e frac : Nat) {bias : Nat} (hbias : f.emax = bias) :
    let x := f.decodeFields neg e frac
    (e = 2 * bias + 1 → x = if frac = 0 then .inf neg else if 2 ^ (f.fracBits - 1) ≤ frac then .snan else .qnan) ∧
    (e = 0 → frac = 0 → ∃ k, x = .finite neg 0 k) ∧
    (e = 0 → frac ≠ 0 → ∃ m k, x = .denormal neg m k ∧
      ratOf neg m k = ratOf neg frac (1 - (bias : Int) - f.fracBits)) ∧
    (0 < e → e ≤ 2 * bias → ∃ m k, x = .finite neg m k ∧
      ratOf neg m k = ratOf neg (2 ^ f.fracBits + frac) ((e : Int) - bias - f.fracBits)) := by
  have hones : f.expOnes = 2 * bias + 1 := by
    have h := f.expOnes_eq
    omega
  rw [FpFormat.decodeFields, hones, FpFormat.emin, hbias]
  refine ⟨fun he => if_pos he, fun he hzero => ⟨0, ?_⟩, fun he hne => ⟨_, _, ?_, rfl⟩,
    fun hpos hle => ⟨_, _, ?_, rfl⟩⟩
  · rw [if_neg (by omega), if_pos he, if_pos hzero]
  · rw [if_neg (by omega), if_pos he, if_neg hne]
  · rw [if_neg (by omega), if_neg (by omega)]

/-- Settles O55: each conversion is its gates around FPFinish of its rounding. -/
theorem fpConversions : Obligations.FpConversions := by
  refine ⟨?finish, fpRound_double_exact, ?reads⟩
  case finish =>
    intro s fs fd ⟨hcu1, hodd⟩ e toFixed toFloat ofInt ofLong a b
    have hfixed (mode lo hi x) : fpToFixed mode lo hi x = toFixed mode lo hi x := by
      cases x with
      | finite neg m k => exact fpToFixed_finite mode lo hi neg m k
      | denormal | inf | qnan | snan => rfl
    have hfloat (dst x) : fpFromFp dst s.fcr31 x = toFloat dst x := by cases x <;> rfl
    have hlong (dst z) : fpFromLong dst s.fcr31 z = ofLong dst z := fpFromLong_eq dst s.fcr31 z
    have word {i f mode} (h : exec i s = needFpu s (fpToWord f mode s fs fd)) :
        Finishes i s .single fd (toFixed mode (-2 ^ 31) (2 ^ 31 - 1) (f.operand s fs)) :=
      hfixed .. ▸ finishes_of_fpToWord hcu1 hodd h
    have convert {i dst src} (h : exec i s = needFpu s (fpConvert dst src s fs fd)) :
        Finishes i s dst fd (toFloat dst (src.operand s fs)) := hfloat .. ▸ finishes_of_fpConvert hcu1 hodd h
    refine ⟨word rfl, word rfl, word rfl, word rfl, word rfl, word rfl, word rfl, word rfl, word rfl, word rfl,
      convert rfl, convert rfl, finishes_of_fpFromWord hcu1 hodd rfl, finishes_of_fpFromWord hcu1 hodd rfl,
      fun h64 => ?_⟩
    have long {i f mode} (h : exec i s = needFpu s (fpToLong f mode s fs fd)) :
        Finishes i s .double fd (toFixed mode (-2 ^ 53) (2 ^ 53 - 1) (f.operand s fs)) :=
      hfixed .. ▸ finishes_of_fpToLong hcu1 hodd h64 h
    have dword {i dst} (h : exec i s = needFpu s (fpFromDword dst s fs fd)) :
        Finishes i s dst fd (ofLong dst (s.fp fs).toDword.toInt) :=
      hlong .. ▸ finishes_of_fpFromDword hcu1 hodd h64 h
    exact ⟨long rfl, long rfl, long rfl, long rfl, long rfl, long rfl, long rfl, long rfl, long rfl, long rfl,
      dword rfl, dword rfl⟩
  case reads =>
    intro v Reads
    rw [FpFormat.decode_fields, FpFormat.decode_fields]
    exact ⟨FpFormat.single.decodeFields_reads _ _ _ rfl, FpFormat.double.decodeFields_reads _ _ _ rfl⟩

end Sys2Proof.Machine
end

section
/-! O57: the operations of the FPU before rounding. Sums and products are exact on scaled integers, quotients and roots
are the integer below the exact value; then the screen of special operands and the multiply-add family. -/

open Sys2Proof

namespace Sys2Proof.Machine

/-! ## Sums, differences and products (47_fpu_arith.md R865 to R867, R857) -/

section Exact
variable (mode : Rounding) (a b : Bool) (m n : Nat) (e g : Int)

theorem Fp.add_finite : ∃ c k h, Fp.add mode (.finite a m e) (.finite b n g) = .value c k h false ∧
    ratOf c k h = ratOf a m e + ratOf b n g ∧ (k = 0 → c = if a = b then a else mode = .down) := by
  have hsum : ((scaled a m e (min e g) + scaled b n g (min e g) : Int) : Rat) * 2 ^ (min e g) =
      ratOf a m e + ratOf b n g := by
    rw [ratOf_eq_scaled a m (min_le_left e g), ratOf_eq_scaled b n (min_le_right e g), ← add_mul, Int.cast_add]
  rw [Fp.add]
  generalize scaled a m e (min e g) + scaled b n g (min e g) = z at *
  split
  · next hz =>
    refine ⟨_, 0, 0, rfl, ?_, fun _ => by cases a <;> cases b <;> simp⟩
    rw [ratOf_zero, ← hsum, hz, Int.cast_zero, zero_mul]
  · next hz => exact ⟨_, _, _, rfl, (ratOf_natAbs _ z).trans hsum, fun hk => absurd (Int.natAbs_eq_zero.1 hk) hz⟩

theorem Fp.sub_finite : ∃ c k h, Fp.sub mode (.finite a m e) (.finite b n g) = .value c k h false ∧
    ratOf c k h = ratOf a m e - ratOf b n g ∧ (k = 0 → c = if a = !b then a else mode = .down) := by
  rw [sub_eq_add_neg, ← ratOf_not]
  exact Fp.add_finite mode a (!b) m n e g

theorem Fp.product_finite :
    Fp.product (.finite a m e) (.finite b n g) = some (.finite (a != b) (m * n) (e + g)) := rfl

theorem Fp.product_inf_finite {k : Nat} (hk : k ≠ 0) :
    Fp.product (.inf a) (.finite b k g) = some (.inf (a != b)) := if_neg hk

theorem Fp.product_finite_inf {k : Nat} (hk : k ≠ 0) :
    Fp.product (.finite b k g) (.inf a) = some (.inf (b != a)) := if_neg hk

theorem Fp.mul_of_product {x y p : Fp} (h : Fp.product x y = some p) : Fp.mul x y = p.exact := by
  rw [Fp.mul, h]

/-! ## Quotients (R868) -/

/-- An integer quotient lies below the exact one, and is it when nothing remains. -/
theorem natDiv_spec (m : Nat) {n : Nat} (hn : n ≠ 0) :
    ((m / n : Nat) : Rat) ≤ m / n ∧ (m : Rat) / n < (m / n : Nat) + 1 ∧
      (m % n = 0 ↔ ((m / n : Nat) : Rat) = m / n) := by
  have hfloor := Nat.floor_div_eq_div (K := Rat) m n
  have hle := Nat.floor_le (div_nonneg (m.cast_nonneg (α := Rat)) n.cast_nonneg)
  have hlt := Nat.lt_floor_add_one ((m : Rat) / n)
  rw [hfloor] at hle hlt
  refine ⟨hle, hlt, ?_⟩
  have hn' : (n : Rat) ≠ 0 := Nat.cast_ne_zero.2 hn
  rw [eq_div_iff hn', ← Nat.cast_mul, Nat.cast_inj, ← Nat.dvd_iff_mod_eq_zero, Nat.dvd_iff_div_mul_eq]

theorem Fp.div_zero (hm : m ≠ 0) : Fp.div (.finite a m e) (.finite b 0 g) = .divideByZero (a != b) := by
  rw [Fp.div, if_pos rfl, if_neg hm]

theorem Fp.div_finite (hm : m ≠ 0) (hn : n ≠ 0) : ∃ k h r,
    Fp.div (.finite a m e) (.finite b n g) = .value (a != b) k h r ∧
    ratOf false k h ≤ |ratOf a m e / ratOf b n g| ∧ |ratOf a m e / ratOf b n g| < ratOf false (k + 1) h ∧
    (r = false ↔ ratOf false k h = |ratOf a m e / ratOf b n g|) ∧ (n ≤ 2 * m → 2 ^ 59 ≤ k) := by
  have hunit := two_zpow_pos (e - g - 60)
  have hvalue : |ratOf a m e / ratOf b n g| = ((m * 2 ^ 60 : Nat) : Rat) / n * 2 ^ (e - g - 60) := by
    have he : e = e - g - 60 + g + (60 : Nat) := by omega
    rw [abs_div, abs_ratOf, abs_ratOf, ratOf_false, ratOf_false]
    conv_lhs => rw [he, two_zpow_add_nat, two_zpow_add]
    have hn' : (n : Rat) ≠ 0 := Nat.cast_ne_zero.2 hn
    have hg := (two_zpow_pos g).ne'
    push_cast
    field_simp
    norm_num
  obtain ⟨hle, hlt, hexact⟩ := natDiv_spec (m * 2 ^ 60) hn
  refine ⟨m * 2 ^ 60 / n, e - g - 60, m * 2 ^ 60 % n != 0, by rw [Fp.div, if_neg hn, if_neg hm], ?_⟩
  rw [hvalue, ratOf_false, ratOf_false, mul_le_mul_iff_left₀ hunit, mul_lt_mul_iff_left₀ hunit,
    mul_left_inj' hunit.ne', Nat.cast_succ, bne_eq_false_iff_eq]
  refine ⟨hle, hlt, hexact, fun hbits => ?_⟩
  rw [Nat.le_div_iff_mul_le (Nat.pos_of_ne_zero hn)]
  omega

end Exact

/-! ## Square roots (R869, R873) -/

theorem isqrtFrom_spec (n k acc : Nat) (hlo : acc * acc ≤ n) (hhi : n < (acc + 2 ^ k) * (acc + 2 ^ k)) :
    isqrtFrom n k acc * isqrtFrom n k acc ≤ n ∧ n < (isqrtFrom n k acc + 1) * (isqrtFrom n k acc + 1) := by
  induction k generalizing acc with
  | zero => exact ⟨hlo, hhi⟩
  | succ k ih =>
    rw [isqrtFrom]
    split
    · next h => exact ih _ h (by rw [add_assoc, ← two_mul, ← pow_succ']; exact hhi)
    · next h => exact ih _ hlo (not_le.1 h)

theorem isqrt_spec (n : Nat) : isqrt n * isqrt n ≤ n ∧ n < (isqrt n + 1) * (isqrt n + 1) := by
  refine isqrtFrom_spec n _ 0 (Nat.zero_le _) ?_
  rw [zero_add, ← pow_add]
  exact Nat.lt_log2_self.trans_le (Nat.pow_le_pow_right two_pos (by omega))

theorem two_pow_le_isqrt {j n : Nat} (h : 2 ^ (2 * j) ≤ n) : 2 ^ j ≤ isqrt n := by
  refine Nat.lt_succ_iff.1 (Nat.mul_self_lt_mul_self_iff.1 ?_)
  rw [← pow_add, ← two_mul]
  exact h.trans_lt (isqrt_spec n).2

theorem evenMantissa_le (m : Nat) (e : Int) : evenMantissa m e ≤ 2 * m := by
  rw [evenMantissa]
  split <;> omega

/-- A number is its even mantissa times a square. -/
theorem ratOf_eq_evenMantissa (m : Nat) (e : Int) : ratOf false m e = evenMantissa m e * (2 ^ halfExponent e) ^ 2 := by
  have hsq : ((2 : Rat) ^ halfExponent e) ^ 2 = 2 ^ (halfExponent e + halfExponent e) := by rw [sq, two_zpow_add]
  rw [ratOf_false, hsq, evenMantissa, halfExponent]
  split
  · next h => rw [show e / 2 + e / 2 = e by omega]
  · next h =>
    have he : e = (e - 1) / 2 + (e - 1) / 2 + 1 := by omega
    conv_lhs => rw [he, two_zpow_add _ 1, zpow_one]
    push_cast
    ring

theorem sq_ratOf (k : Nat) (e : Int) : ratOf false k e ^ 2 = ((k * k : Nat) : Rat) * (2 ^ e) ^ 2 := by
  rw [ratOf_false]
  push_cast
  ring

section Roots
variable {m : Nat} (hm : m ≠ 0) (e : Int)
include hm

theorem evenMantissa_ne_zero : evenMantissa m e ≠ 0 := by
  rw [evenMantissa]
  split <;> omega

theorem Fp.sqrt_finite : ∃ k h r, Fp.sqrt (.finite false m e) = .value false k h r ∧
    ratOf false k h ^ 2 ≤ ratOf false m e ∧ ratOf false m e < ratOf false (k + 1) h ^ 2 ∧
    (r = false ↔ ratOf false k h ^ 2 = ratOf false m e) ∧ 2 ^ 59 ≤ k := by
  have hunit : (0 : Rat) < (2 ^ (halfExponent e - 60)) ^ 2 := pow_pos (two_zpow_pos _) 2
  have hvalue : ratOf false m e = ((evenMantissa m e * 2 ^ 120 : Nat) : Rat) * (2 ^ (halfExponent e - 60)) ^ 2 := by
    have he : halfExponent e = halfExponent e - 60 + (60 : Nat) := by omega
    rw [ratOf_eq_evenMantissa]
    conv_lhs => rw [he, two_zpow_add_nat]
    push_cast
    ring
  obtain ⟨hle, hlt⟩ := isqrt_spec (evenMantissa m e * 2 ^ 120)
  have hpos : 2 ^ (2 * 60) ≤ evenMantissa m e * 2 ^ 120 :=
    Nat.le_mul_of_pos_left _ (Nat.pos_of_ne_zero (evenMantissa_ne_zero hm e))
  have hbits := two_pow_le_isqrt hpos
  refine ⟨_, _, _, by rw [Fp.sqrt, if_neg hm, if_neg Bool.false_ne_true], ?_⟩
  rw [sq_ratOf, sq_ratOf, hvalue, mul_le_mul_iff_left₀ hunit, mul_lt_mul_iff_left₀ hunit, mul_left_inj' hunit.ne',
    Nat.cast_le, Nat.cast_lt, Nat.cast_inj, bne_eq_false_iff_eq]
  exact ⟨hle, hlt, Iff.rfl, le_trans (by decide) hbits⟩

theorem Fp.rsqrt_finite : ∃ k h r, Fp.rsqrt (.finite false m e) = .value false k h r ∧
    ratOf false k h ^ 2 ≤ 1 / ratOf false m e ∧ 1 / ratOf false m e < ratOf false (k + 1) h ^ 2 ∧
    (r = false ↔ ratOf false k h ^ 2 = 1 / ratOf false m e) ∧ (m < 2 ^ 53 → 2 ^ 59 ≤ k) := by
  have hn := evenMantissa_ne_zero hm e
  have hbound := evenMantissa_le m e
  have hvalue : 1 / ratOf false m e =
      ((2 ^ 240 : Nat) : Rat) / evenMantissa m e * (2 ^ (-120 - halfExponent e)) ^ 2 := by
    have hinv : (2 : Rat) ^ (-120 - halfExponent e) * 2 ^ 120 * 2 ^ halfExponent e = 1 := by
      have hzero : -120 - halfExponent e + (120 : Nat) + halfExponent e = 0 := by omega
      rw [← two_zpow_add_nat, ← two_zpow_add, hzero, zpow_zero]
    have hn' : (evenMantissa m e : Rat) ≠ 0 := Nat.cast_ne_zero.2 hn
    have hh := (two_zpow_pos (halfExponent e)).ne'
    have hsq := congrArg (· ^ 2) hinv
    rw [ratOf_eq_evenMantissa, div_eq_iff (mul_ne_zero hn' (pow_ne_zero 2 hh)), div_mul_eq_mul_div, div_mul_eq_mul_div,
      eq_div_iff hn']
    push_cast
    linear_combination -(evenMantissa m e : Rat) * hsq
  have hunit : (0 : Rat) < (2 ^ (-120 - halfExponent e)) ^ 2 := pow_pos (two_zpow_pos _) 2
  refine ⟨_, _, _, by rw [Fp.rsqrt, if_neg hm, if_neg Bool.false_ne_true], ?_⟩
  rw [sq_ratOf, sq_ratOf, hvalue, mul_le_mul_iff_left₀ hunit, mul_lt_mul_iff_left₀ hunit, mul_left_inj' hunit.ne',
    bne_eq_false_iff_eq]
  generalize evenMantissa m e = n at *
  obtain ⟨hle, hlt⟩ := isqrt_spec (2 ^ 240 / n)
  obtain ⟨hfloor, hceil, -⟩ := natDiv_spec (2 ^ 240) hn
  refine ⟨le_trans (Nat.cast_le.2 hle) hfloor, hceil.trans_le (by exact_mod_cast hlt), ?_, fun hbits => ?_⟩
  · rw [eq_div_iff (Nat.cast_ne_zero.2 hn), ← Nat.cast_mul, Nat.cast_inj]
  · have hq : 2 ^ (2 * 59) ≤ 2 ^ 240 / n := by
      rw [Nat.le_div_iff_mul_le (Nat.pos_of_ne_zero hn)]
      omega
    exact two_pow_le_isqrt hq

end Roots

/-! ## The screen (R862) -/

/-- An operand that is handed to software. -/
def Fp.handed : Fp → Bool
  | .denormal _ _ _ => true
  | .qnan => true
  | _ => false

/-- A signaling NaN. -/
def Fp.signals : Fp → Bool
  | .snan => true
  | _ => false

theorem fpScreen_eq (f : FpFormat) (l : List Fp) : fpScreen f l =
    if l.any Fp.handed then some { cause := causeE, value := 0 }
    else if l.any Fp.signals then some { cause := causeV, value := f.qnan } else none := rfl

theorem any_handed_iff (l : List Fp) :
    l.any Fp.handed = true ↔ ∃ x ∈ l, x = .qnan ∨ ∃ c k h, x = .denormal c k h := by
  have hiff (x : Fp) : x.handed = true ↔ x = .qnan ∨ ∃ c k h, x = .denormal c k h := by
    cases x <;> simp [Fp.handed]
  simp only [List.any_eq_true, hiff]

theorem any_signals_iff (l : List Fp) : l.any Fp.signals = true ↔ .snan ∈ l := by
  have hiff (x : Fp) : x.signals = true ↔ x = .snan := by cases x <;> simp [Fp.signals]
  simp only [List.any_eq_true, hiff, exists_eq_right]

theorem fpScreen_spec (f : FpFormat) (l : List Fp) :
    let Handed : Prop := ∃ x ∈ l, x = .qnan ∨ ∃ c k h, x = .denormal c k h
    (Handed → fpScreen f l = some { cause := 0b100000, value := 0 }) ∧
    (¬ Handed → .snan ∈ l → fpScreen f l = some { cause := 0b010000, value := f.qnan }) ∧
    (¬ Handed → .snan ∉ l → fpScreen f l = none) := by
  dsimp only
  rw [← any_handed_iff, ← any_signals_iff, fpScreen_eq]
  exact ⟨fun h => if_pos h, fun h hs => (if_neg h).trans (if_pos hs), fun h hs => (if_neg h).trans (if_neg hs)⟩

/-! ## Results (R854, R870, R871) -/

section Results
variable {f : FpFormat} {s : State} {ft fs : FprNum} {r : FpResult}

theorem fpResult2_of_screen {op : Rounding → Fp → Fp → FpExact}
    (h : fpScreen f [f.operand s fs, f.operand s ft] = some r) : fpResult2 f op s ft fs = r := by
  rw [fpResult2, h]

theorem fpResult2_of_none {op : Rounding → Fp → Fp → FpExact}
    (h : fpScreen f [f.operand s fs, f.operand s ft] = none) :
    fpResult2 f op s ft fs = (op s.fcr31.rounding (f.operand s fs) (f.operand s ft)).result f s.fcr31 false := by
  rw [fpResult2, h]

theorem fpResult1_of_screen {op : Fp → FpExact} (h : fpScreen f [f.operand s fs] = some r) :
    fpResult1 f op s fs = r := by
  rw [fpResult1, h]

theorem fpResult1_of_none {op : Fp → FpExact} (h : fpScreen f [f.operand s fs] = none) :
    fpResult1 f op s fs = (op (f.operand s fs)).result f s.fcr31 false := by
  rw [fpResult1, h]

theorem fpSignResult_of_screen {op : Dword → Dword} (h : fpScreen f [f.operand s fs] = some r) :
    fpSignResult f op s fs = r := by
  rw [fpSignResult, h]

theorem fpSignResult_of_none {op : Dword → Dword} (h : fpScreen f [f.operand s fs] = none) :
    fpSignResult f op s fs = { cause := causeNone, value := op (f.read s fs) } := by
  rw [fpSignResult, h]

end Results

/-- The sign bit alone. -/
theorem FpFormat.zero_true (f : FpFormat) : f.zero true = BitVec.twoPow 64 (f.fracBits + f.expBits) := by
  cases f <;> decide

theorem FpFormat.getLsbD_clearSign (f : FpFormat) (v : Dword) {j : Nat} (hj : j < 64) :
    (f.clearSign v).getLsbD j = if j = f.fracBits + f.expBits then false else v.getLsbD j := by
  rw [FpFormat.clearSign, f.zero_true, BitVec.getLsbD_and, BitVec.getLsbD_not, BitVec.getLsbD_twoPow]
  split
  · next h => simp [h, h ▸ hj]
  · next h => simp [hj, Ne.symm h]

theorem FpFormat.getLsbD_flipSign (f : FpFormat) (v : Dword) {j : Nat} (hj : j < 64) :
    (f.flipSign v).getLsbD j = if j = f.fracBits + f.expBits then !v.getLsbD j else v.getLsbD j := by
  rw [FpFormat.flipSign, f.zero_true, BitVec.getLsbD_xor, BitVec.getLsbD_twoPow]
  split
  · next h => simp [h, h ▸ hj]
  · next h => simp [hj, Ne.symm h]

/-! ## Multiply and add (R874 to R877) -/

/-- The negated forms invert the sign of a result. -/
def FpResult.signed (r : FpResult) (f : FpFormat) (neg : Bool) : FpResult :=
  { r with value := r.value ^^^ (if neg then f.zero true else 0) }

theorem FpResult.signed_eq (r : FpResult) (f : FpFormat) (neg : Bool) :
    r.signed f neg = { r with value := if neg then f.flipSign r.value else r.value } := by
  cases neg
  · rw [FpResult.signed, if_neg Bool.false_ne_true, if_neg Bool.false_ne_true]
    exact congrArg (FpResult.mk r.cause) BitVec.xor_zero
  · rfl

section Madd
variable {f : FpFormat} {c : Fcr31} {minus neg : Bool} {z t w : Fp} {r : FpResult}

theorem fpMadd_of_screen (h : fpScreen f [z, t, w] = some r) : fpMadd f c minus neg z t w = r := by
  rw [fpMadd, h]

theorem fpMadd_of_invalid (h : fpScreen f [z, t, w] = none) (hp : Fp.product t w = none) :
    fpMadd f c minus neg z t w = { cause := causeV, value := f.qnan } := by
  rw [fpMadd, h, hp]

theorem fpMadd_of_unimplemented {p : Fp} (h : fpScreen f [z, t, w] = none) (hp : Fp.product t w = some p)
    (hu : f.productUnimplemented c.rounding p = true) :
    fpMadd f c minus neg z t w = { cause := causeE, value := 0 } := by
  rw [fpMadd, h, hp]
  exact if_pos hu

/-- The product is added exactly and the sum is rounded once. -/
theorem fpMadd_of_sum {p : Fp} {x : FpExact} (h : fpScreen f [z, t, w] = none) (hp : Fp.product t w = some p)
    (hu : f.productUnimplemented c.rounding p = false)
    (hx : Fp.add c.rounding p (if minus then z.negate else z) = x) :
    fpMadd f c minus neg z t w =
      if x = .invalid ∨ (x.result f c true).cause = causeE then x.result f c true
      else (x.result f c true).signed f neg := by
  have hfused : f.addend c.rounding p = (p, causeNone) := rfl
  rw [fpMadd, h, hp, FpResult.signed_eq]
  dsimp only
  rw [if_neg (ne_true_of_eq_false hu), hfused, hx]
  simp [causeNone]

end Madd

theorem FpFormat.productUnimplemented_finite_iff (f : FpFormat) (mode : Rounding) (neg : Bool) (m : Nat) (e : Int) :
    let x := f.normalize mode neg m e false
    f.productUnimplemented mode (.finite neg m e) = true ↔
      ¬ (m = 0 ∨ f.emin ≤ f.exponent x ∧ f.exponent x ≤ f.emax) := by
  dsimp only
  rw [FpFormat.productUnimplemented, FpFormat.roundProduct]
  split
  · next hm => simp [hm]
  · next hm =>
    simp only [hm, false_or, Bool.or_eq_true, decide_eq_true_eq]
    omega

/-- The addend of the multiply-subtract forms is the operand with its sign inverted. -/
theorem Fp.negate_finite_of (minus d : Bool) (l : Nat) (i : Int) :
    (if minus then (Fp.finite d l i).negate else .finite d l i) = .finite (d != minus) l i := by
  cases minus <;> cases d <;> rfl

theorem Fp.negate_inf_of (minus d : Bool) :
    (if minus then (Fp.inf d).negate else .inf d) = .inf (d != minus) := by
  cases minus <;> cases d <;> rfl

theorem ratOf_bne (d minus : Bool) (l : Nat) (i : Int) :
    ratOf (d != minus) l i = (if minus then -1 else 1) * ratOf d l i := by
  cases minus with
  | false => rw [Bool.bne_false, if_neg Bool.false_ne_true, one_mul]
  | true => rw [Bool.bne_true, ratOf_not, if_pos rfl, neg_one_mul]

section MaddCases
variable (f : FpFormat) (c : Fcr31) (minus neg : Bool)

/-- A finite product that does not round into the range of the exponent is handed to software. -/
theorem fpMadd_of_product_outside {a b : Bool} {m n : Nat} {e g : Int} {z : Fp}
    (hz : fpScreen f [z, .finite a m e, .finite b n g] = none)
    (h : let x := f.normalize c.rounding (a != b) (m * n) (e + g) false
      ¬ (m * n = 0 ∨ f.emin ≤ f.exponent x ∧ f.exponent x ≤ f.emax)) :
    fpMadd f c minus neg z (.finite a m e) (.finite b n g) = { cause := causeE, value := 0 } :=
  fpMadd_of_unimplemented hz (Fp.product_finite ..) ((f.productUnimplemented_finite_iff ..).2 h)

section Inside
variable {a b : Bool} {m n : Nat} {e g : Int}
  (h : let x := f.normalize c.rounding (a != b) (m * n) (e + g) false
    m * n = 0 ∨ f.emin ≤ f.exponent x ∧ f.exponent x ≤ f.emax)
include h

theorem productImplemented_of : f.productUnimplemented c.rounding (.finite (a != b) (m * n) (e + g)) = false :=
  Bool.eq_false_of_not_eq_true fun hu => (f.productUnimplemented_finite_iff ..).1 hu h

theorem fpMadd_inf_finite (d : Bool) : fpMadd f c minus neg (.inf d) (.finite a m e) (.finite b n g) =
    FpResult.signed { cause := 0, value := f.infinity (d != minus) } f neg := by
  rw [fpMadd_of_sum rfl (Fp.product_finite ..) (productImplemented_of f c h) (x := .inf (d != minus))
    (by rw [Fp.negate_inf_of]; rfl)]
  exact if_neg (by simp [FpExact.result, causeNone, causeE])

theorem fpMadd_finite_finite (d : Bool) (l : Nat) (i : Int) :
    ∃ s q h, ratOf s q h = ratOf a m e * ratOf b n g + (if minus then -1 else 1) * ratOf d l i ∧
      (q = 0 → s = if (a != b) = (d != minus) then (a != b) else decide (c.rounding = .down)) ∧
      fpMadd f c minus neg (.finite d l i) (.finite a m e) (.finite b n g) =
        if (fpRound f c true s q h false).cause = causeE then fpRound f c true s q h false
        else (fpRound f c true s q h false).signed f neg := by
  obtain ⟨s, q, k, hadd, hvalue, hzero⟩ :=
    Fp.add_finite c.rounding (a != b) (d != minus) (m * n) l (e + g) i
  refine ⟨s, q, k, by rw [hvalue, ratOf_mul, ratOf_bne d], hzero, ?_⟩
  rw [fpMadd_of_sum rfl (Fp.product_finite ..) (productImplemented_of f c h) (x := .value s q k false)
    (by rw [Fp.negate_finite_of, hadd])]
  simp [FpExact.result]

end Inside

/-- An infinite product plus a number. -/
theorem fpMadd_of_product_inf_finite {t w : Fp} {s : Bool} (d : Bool) (l : Nat) (i : Int)
    (hs : fpScreen f [.finite d l i, t, w] = none) (hp : Fp.product t w = some (.inf s)) :
    fpMadd f c minus neg (.finite d l i) t w = FpResult.signed { cause := 0, value := f.infinity s } f neg := by
  rw [fpMadd_of_sum hs hp rfl (x := .inf s) (by rw [Fp.negate_finite_of]; rfl)]
  exact if_neg (by simp [FpExact.result, causeNone, causeE])

/-- An infinite product plus an infinity. -/
theorem fpMadd_of_product_inf_inf {t w : Fp} {s : Bool} (d : Bool)
    (hs : fpScreen f [.inf d, t, w] = none) (hp : Fp.product t w = some (.inf s)) :
    fpMadd f c minus neg (.inf d) t w =
      if s = (d != minus) then FpResult.signed { cause := 0, value := f.infinity s } f neg
      else { cause := causeV, value := f.qnan } := by
  have hadd : Fp.add c.rounding (.inf s) (if minus then (Fp.inf d).negate else .inf d) =
      if s = (d != minus) then .inf s else .invalid := by rw [Fp.negate_inf_of]; rfl
  rw [fpMadd_of_sum hs hp rfl hadd]
  split
  · exact if_neg (by simp [FpExact.result, causeNone, causeE])
  · exact if_pos (.inl rfl)

end MaddCases

/-! ## The obligation -/

/-- Settles O57: the exact values and the special operands of each operation, the screen before it and the family that
adds a product. -/
theorem fpOperationsAreExact : Obligations.FpOperationsAreExact := by
  refine ⟨?operations, fpScreen_spec, rfl, rfl, fun f c madd neg m e sticky => ⟨rfl, rfl, rfl, rfl⟩, ?results,
    ?madd⟩
  case operations =>
    intro mode a b m n e g x y u v
    refine ⟨Fp.add_finite mode a b m n e g, Fp.sub_finite mode a b m n e g,
      ⟨m * n, e + g, rfl, ratOf_mul a b m n e g⟩, Fp.div_finite a b m n e g, ?sqrt, ?rsqrt, ?one, ?special⟩
    case sqrt => rintro hm rfl; exact Fp.sqrt_finite hm e
    case rsqrt => rintro hm rfl; exact Fp.rsqrt_finite hm e
    case one => exact ⟨2 ^ 52, -52, rfl, by norm_num [ratOf], by omega⟩
    case special =>
      have hsum (c : Bool) (hc : a ≠ c) : Fp.add mode (.inf a) (.inf c) = .invalid := if_neg hc
      have hne : a ≠ !a := by simp
      exact ⟨hsum _ hne, hsum _ hne, if_pos rfl, if_pos (Bool.not_not a).symm, rfl, rfl, rfl, rfl, rfl, rfl, rfl,
        fun hn => ⟨Fp.mul_of_product (Fp.product_inf_finite a b g hn),
          Fp.mul_of_product (Fp.product_finite_inf a b g hn)⟩, rfl, rfl, Fp.div_zero a b m e g,
        fun hn => ⟨0, (if_neg hn).trans (if_pos rfl)⟩, rfl, ⟨0, rfl⟩,
        fun hm => ⟨(if_neg hm).trans (if_pos rfl), (if_neg hm).trans (if_pos rfl)⟩, ⟨0, rfl⟩, rfl, rfl, ⟨0, rfl⟩, rfl,
        rfl⟩
  case results =>
    intro f s ft fs op2 op1 r word sign a b abs neg
    have hword : f.read s fs = word := by cases f <;> rfl
    have hsign : f.fracBits + f.expBits = sign := by cases f <;> rfl
    refine ⟨congrArg f.decode hword, fpResult2_of_screen, fpResult2_of_none,
      fun h => ⟨fpResult1_of_screen h, fpSignResult_of_screen h, fpSignResult_of_screen h⟩, fun h => ?_⟩
    have habs : abs = { cause := causeNone, value := f.clearSign word } := hword ▸ fpSignResult_of_none h
    have hneg : neg = { cause := causeNone, value := f.flipSign word } := hword ▸ fpSignResult_of_none h
    rw [habs, hneg, ← hsign]
    exact ⟨fpResult1_of_none h, rfl, fun j hj => f.getLsbD_clearSign word hj, rfl,
      fun j hj => f.getLsbD_flipSign word hj⟩
  case madd =>
    intro f c minus neg a b d m n l e g i r z t w signed x u v k fits invalid
    refine ⟨fpMadd_of_screen, fun h => ⟨?_, ?_⟩, fun h => ⟨?_, ?_⟩, fun z hz => ?_, fun p hp => ?_⟩
    · exact fpMadd_of_product_outside f c minus neg rfl h
    · exact fpMadd_of_product_outside f c minus neg rfl h
    · exact fpMadd_inf_finite f c minus neg h d
    · exact fpMadd_finite_finite f c minus neg h d l i
    · fin_cases hz <;> exact ⟨fpMadd_of_invalid rfl rfl, fpMadd_of_invalid rfl rfl⟩
    · have infinite {t w} (hk : fpScreen f [k, t, w] = none) (hd : fpScreen f [.inf d, t, w] = none)
          (hprod : Fp.product t w = some (.inf (a != b))) :=
        And.intro (fpMadd_of_product_inf_finite f c minus neg d l i hk hprod)
          (fpMadd_of_product_inf_inf f c minus neg d hd hprod)
      by_cases hn : n = 0
      · rw [if_pos hn, List.append_nil, List.mem_singleton] at hp
        subst hp
        exact infinite rfl rfl rfl
      · rw [if_neg hn] at hp
        fin_cases hp
        · exact infinite rfl rfl rfl
        · exact infinite rfl rfl (Fp.product_inf_finite a b g hn)
        · exact infinite rfl rfl (bne_comm (a := a) ▸ Fp.product_finite_inf a b g hn)

end Sys2Proof.Machine
end

section
/-! O6, O7, O8, O60: what a step does before it comes to its instruction. The first lemmas say the order of
`afterEvents`, one for each request; then come the three entries, the interrupt request and the events. -/

open Sys2Proof

namespace Sys2Proof.Machine

variable {s : State}

/-! ## The order of the requests (60_exceptions.md R1031) -/

section Requests
variable (hcold : s.inputs.coldReset = none)

theorem afterEvents_coldReset {p : Pins} (h : s.inputs.coldReset = some p) :
    s.afterEvents = .next (s.coldResetWith p) := by
  rw [State.afterEvents, h]

include hcold

theorem afterEvents_softReset (hsoft : s.inputs.softReset = true) : s.afterEvents = .next s.warmEntry := by
  rw [State.afterEvents, hcold]; exact if_pos hsoft

/-- With no reset to perform, a processor that is not held looks at NMI and cache error before it proceeds. -/
theorem afterEvents_notHeld (hsoft : s.inputs.softReset = false) (hheld : s.runState ≠ .held) :
    s.afterEvents = if s.inputs.nmiPending != 0 then .next s.takeNmi else
      match s.pendingCacheError with
      | some bits => .next (s.cacheErrorEntry bits)
      | none => s.proceed := by
  rw [State.afterEvents, hcold]
  exact (if_neg (by simp [hsoft])).trans (if_neg hheld)

theorem afterEvents_nmi (hsoft : s.inputs.softReset = false) (hheld : s.runState ≠ .held)
    (hnmi : s.inputs.nmiPending ≠ 0) : s.afterEvents = .next s.takeNmi := by
  rw [afterEvents_notHeld hcold hsoft hheld, if_pos (by simpa using hnmi)]

theorem afterEvents_cacheError (hsoft : s.inputs.softReset = false) (hheld : s.runState ≠ .held)
    (hnmi : s.inputs.nmiPending = 0) {bits : BitVec 7} (herr : s.pendingCacheError = some bits) :
    s.afterEvents = .next (s.cacheErrorEntry bits) := by
  rw [afterEvents_notHeld hcold hsoft hheld, if_neg (by simp [hnmi]), herr]

theorem afterEvents_proceed (hsoft : s.inputs.softReset = false) (hheld : s.runState ≠ .held)
    (hnmi : s.inputs.nmiPending = 0) (herr : s.pendingCacheError = none) : s.afterEvents = s.proceed := by
  rw [afterEvents_notHeld hcold hsoft hheld, if_neg (by simp [hnmi]), herr]

end Requests

theorem State.pendingCacheError_of_de (h : s.status.de = true) : s.pendingCacheError = none := if_pos h

theorem State.pendingCacheError_of_not_de (h : s.status.de = false) : s.pendingCacheError = s.inputs.cacheErr :=
  if_neg (by simp [h])

theorem State.proceed_standby (h : s.runState = .standby) :
    s.proceed = if s.intRequest then raise .interrupt s else .next s := if_pos h

theorem State.proceed_running (h : s.runState = .running) :
    s.proceed = if s.intRequest then s.interruptUnless s.runInstr else s.runInstr := if_neg (by simp [h])

/-- The exception of the instruction comes before the interrupt (log 8). -/
theorem State.interruptUnless_of_raised (s : State) {own : Result} (h : ∃ t, own = .next t ∧ t.raised = true) :
    s.interruptUnless own = own := by
  obtain ⟨t, rfl, ht⟩ := h
  exact if_pos ht

theorem State.interruptUnless_of_not_raised (s : State) {own : Result} (h : ∀ t, own = .next t → t.raised = false) :
    s.interruptUnless own = raise .interrupt s := by
  cases own with
  | next t => exact if_neg (by simp [h t rfl])
  | fault => rfl
  | refused => rfl

/-! ## Resets -/

/-- Settles O6: no cell is listed. -/
theorem resetMemoryIsCanonical : Obligations.ResetMemoryIsCanonical :=
  show Memory.wf [] = true from rfl

theorem PerfControl.toWord_zero : PerfControl.zero.toWord = 0 := by decide

/-- Settles O7: a cold reset gives every field its value in `State.reset`, but for those that the last clause names. -/
theorem coldResetState : Obligations.ColdResetState := by
  intro s p
  refine ⟨afterEvents_coldReset, ?fields, rfl, rfl, rfl, SameMemory.refl s, rfl⟩
  case fields =>
    rintro t (rfl | rfl) <;>
      exact ⟨⟨rfl, rfl, rfl⟩, rfl, rfl, rfl, rfl, rfl, rfl, rfl, rfl, PerfControl.toWord_zero,
        PerfControl.toWord_zero, rfl, rfl, rfl⟩

/-! ## Soft reset, NMI and cache error (70_reset_and_hazards.md R1101, R1102; 60_exceptions.md R1021) -/

/-- What the three entries keep. -/
def KeptByEntry (s t : State) : Prop :=
  t.runState = .running ∧ t.tlb = s.tlb ∧ t.fcr31 = s.fcr31 ∧ SameRegs s t ∧ SameHiLo s t ∧ SameFpRegs s t ∧
    SameMemory s t

theorem keptByEntry_warmEntry (s : State) : KeptByEntry s s.warmEntry :=
  ⟨rfl, rfl, rfl, .refl s, .refl s, .refl s, .refl s⟩

theorem keptByEntry_takeNmi (s : State) : KeptByEntry s s.takeNmi :=
  ⟨rfl, rfl, rfl, .refl s, .refl s, .refl s, .refl s⟩

theorem keptByEntry_cacheErrorEntry (s : State) (bits : BitVec 7) : KeptByEntry s (s.cacheErrorEntry bits) :=
  ⟨rfl, rfl, rfl, .refl s, .refl s, .refl s, .refl s⟩

/-- The registers of CP0 after a soft reset or an NMI. -/
def Cp0.warm (c : Cp0) (restart : Dword) : Cp0 :=
  { c with errorEpc := restart, status := { c.status with bev := true, sr := true, erl := true } }

/-- A soft reset, or else an NMI, which answers one request (92_eei_decisions.md D54). -/
theorem afterEvents_warm (hcold : s.inputs.coldReset = none)
    (h : s.inputs.softReset = true ∨ (s.inputs.softReset = false ∧ s.runState ≠ .held ∧ s.inputs.nmiPending ≠ 0)) :
    ∃ t, s.afterEvents = .next t ∧ ContinuesAt t 0xFFFFFFFFBFC00000 0xFFFFFFFFBFC00004 false ∧
      t.cp0 = s.cp0.warm s.restart ∧ t.llBit = false ∧ KeptByEntry s t ∧
      t.inputs.nmiPending = (if s.inputs.softReset then s.inputs.nmiPending else s.inputs.nmiPending - 1) := by
  obtain hsoft | ⟨hsoft, hheld, hnmi⟩ := h
  · exact ⟨_, afterEvents_softReset hcold hsoft, ⟨rfl, rfl, rfl⟩, rfl, rfl, keptByEntry_warmEntry s,
      (if_pos hsoft).symm⟩
  · exact ⟨_, afterEvents_nmi hcold hsoft hheld hnmi, ⟨rfl, rfl, rfl⟩, rfl, rfl, keptByEntry_takeNmi s,
      (if_neg (by simp [hsoft])).symm⟩

theorem continuesAt_cacheErrorEntry (s : State) (bits : BitVec 7) : ContinuesAt (s.cacheErrorEntry bits)
    (if s.status.bev then 0xFFFFFFFFBFC00300 else 0xFFFFFFFFA0000100)
    (if s.status.bev then 0xFFFFFFFFBFC00304 else 0xFFFFFFFFA0000104) false := by
  have h : ContinuesAt (s.cacheErrorEntry bits)
    ((if s.status.bev then 0xFFFFFFFFBFC00200#64 else 0xFFFFFFFFA0000000#64) + 0x100#64)
    ((if s.status.bev then 0xFFFFFFFFBFC00200#64 else 0xFFFFFFFFA0000000#64) + 0x100#64 + 4) false := ⟨rfl, rfl, rfl⟩
  cases hbev : s.status.bev <;> rw [hbev] at h <;> exact h

/-- CacheErr holds the seven bits of the event at its left end (10_state.md R32). -/
theorem cacheErrorWord_eq_shiftLeft (bits : BitVec 7) : cacheErrorWord bits = bits.setWidth 32 <<< 25 := by
  have h := setWidth_append_eq_or 32 bits 0#25
  simpa [cacheErrorWord] using h

/-- Settles O8: each case of the order of the requests ends in its entry; the pins are the four reset events. -/
theorem softResetAndNmi : Obligations.SoftResetAndNmi := by
  refine ⟨fun s hcold => ⟨afterEvents_warm hcold, afterEvents_held hcold, ?cacheError,
    State.pendingCacheError_of_de⟩, fun s p => ⟨⟨rfl, rfl⟩, ⟨rfl, rfl⟩, ?releaseCold, ?releaseWarm⟩⟩
  case cacheError =>
    intro hsoft hheld hnmi hde bits herr
    have hpending := (State.pendingCacheError_of_not_de hde).trans herr
    refine ⟨_, afterEvents_cacheError hcold hsoft hheld hnmi hpending, continuesAt_cacheErrorEntry s bits, rfl, ?_,
      SameLink.refl s, keptByEntry_cacheErrorEntry s bits⟩
    exact (low_setWidth (cacheErrorWord bits)).trans (cacheErrorWord_eq_shiftLeft bits)
  case releaseCold =>
    intro hpin
    simp [State.deliverEvent, State.releaseColdReset, hpin]
  case releaseWarm =>
    intro hpin hcoldPin
    refine ⟨rfl, fun hstart => ?_, fun hstart => ?_⟩ <;>
      simp [State.deliverEvent, State.releaseReset, hpin, hcoldPin, hstart]

/-! ## Interrupts (60_exceptions.md R1040; 10_state.md R45) -/

theorem ne_zero_iff_getLsbD {n : Nat} (x : BitVec n) : x ≠ 0 ↔ ∃ j, x.getLsbD j = true := by
  refine ⟨fun h => ?_, fun ⟨j, hj⟩ h => by simp [h] at hj⟩
  by_contra hnone
  exact h (BitVec.eq_of_getLsbD_eq fun j _ => by simpa using fun hj => hnone ⟨j, hj⟩)

theorem State.intRequest_iff (s : State) : s.intRequest = true ↔ s.status.ie = true ∧ s.status.exl = false ∧
    s.status.erl = false ∧ ∃ j, (s.causeIp &&& s.status.im).getLsbD j = true := by
  rw [← ne_zero_iff_getLsbD]
  simp [State.intRequest, and_assoc]

section CauseIp

theorem State.getLsbD_causeIp_software (s : State) {j : Nat} (hj : j < 2) :
    s.causeIp.getLsbD j = s.cp0.cause.ip10.getLsbD j := by
  rw [State.causeIp, BitVec.getLsbD_append, if_pos hj]

theorem State.getLsbD_causeIp_pins (s : State) {j : Nat} (hj : j < 5) :
    s.causeIp.getLsbD (j + 2) = (s.inputs.intPin.getLsbD j || s.inputs.intReg.getLsbD j) := by
  rw [State.causeIp, BitVec.getLsbD_append, if_neg (by omega), BitVec.getLsbD_append, if_pos (by omega)]
  simp [hj]

theorem State.getLsbD_causeIp_timer (s : State) : s.causeIp.getLsbD 7 = (if s.pins.tIntSel then s.inputs.timerReq
    else s.inputs.intPin.getLsbD 5 || s.inputs.intReg.getLsbD 5) := by
  rw [State.causeIp, BitVec.getLsbD_append, if_neg (by decide), BitVec.getLsbD_append, if_neg (by decide)]
  simp [bit]

theorem State.readCp0_cause (s : State) : s.readCp0 13 = (s.cp0.cause.toWord s.causeIp).setWidth 64 := rfl

/-- Cause shows the live bits. -/
theorem State.readCp0_causeIp (s : State) : (s.readCp0 13).extractLsb' 8 8 = s.causeIp := by
  apply BitVec.eq_of_getLsbD_eq
  intro j hj
  rw [State.readCp0_cause, Cause.zext_toWord, BitVec.getLsbD_extractLsb', decide_eq_true hj, Bool.true_and]
  iterate 4 rw [BitVec.getLsbD_append]
  rw [if_neg (by omega), if_neg (by omega), if_neg (by omega), if_pos (by omega)]
  congr 1
  omega

end CauseIp

/-! ## The events -/

theorem getLsbD_writeIntReg (intReg : BitVec 7) (data : BitVec 23) {j : Nat} (hj : j < 7) :
    (writeIntReg intReg data).getLsbD j = if data.getLsbD (16 + j) then data.getLsbD j else intReg.getLsbD j := by
  cases h : data.getLsbD (16 + j) <;> simp [writeIntReg, hj, h, -BitVec.getLsbD_eq_getElem]

theorem State.timerReq_tick_iff (s : State) : s.tick.inputs.timerReq = true ↔
    s.inputs.timerReq = true ∨ s.cp0.count + 1 = s.cp0.compare := by
  simp [State.tick, or_comm]

theorem State.nmiPending_externalWrite (s : State) (data : BitVec 23) : (s.externalWrite data).inputs.nmiPending =
    s.inputs.nmiPending + if s.inputs.intReg.getLsbD 6 = false ∧ (s.externalWrite data).inputs.intReg.getLsbD 6 = true
      then 1 else 0 := by
  simp [State.externalWrite]

/-- Settles O60: the boundary by the order of the requests, the lines by the bits of `causeIp`, and the events. -/
theorem interruptsAtTheBoundary : Obligations.InterruptsAtTheBoundary := by
  refine ⟨?boundary, fun s => ⟨rfl, deliver_raised s, fun e => takeException_raised e s⟩, fun s =>
    ⟨fun _ => s.getLsbD_causeIp_software, fun _ => s.getLsbD_causeIp_pins, s.getLsbD_causeIp_timer,
      s.readCp0_causeIp⟩, fun s data levels => ⟨⟨rfl, s.timerReq_tick_iff⟩,
        ⟨fun _ => getLsbD_writeIntReg s.inputs.intReg data, s.nmiPending_externalWrite data⟩, rfl, rfl⟩⟩
  case boundary =>
    intro s hcold hsoft hheld hnmi herr
    rw [afterEvents_proceed hcold hsoft hheld hnmi herr]
    refine ⟨s.intRequest_iff, fun hrun => s.proceed_standby hrun, fun hrun hint => ?idle, fun hrun hint _ => ?request⟩
    case idle => rw [State.proceed_running hrun, hint]; rfl
    case request =>
      rw [State.proceed_running hrun, hint]
      exact ⟨s.interruptUnless_of_raised, s.interruptUnless_of_not_raised⟩

end Sys2Proof.Machine
end

section
/-! O47: `takeException` field by field. What it counts comes first, then what the cause records, then the general
entry; `takeException_eq` puts the three in a form in which each field can be read off. -/

open Sys2Proof

namespace Sys2Proof.Machine

variable {s t u : State}

/-! ## Counting -/

@[simp] theorem PerfControl.counts_false (c : PerfControl) (st : Status) (k : BitVec 4) :
    c.counts st k false = false := by
  simp [PerfControl.counts]

/-- What does not happen is not counted. -/
@[simp] theorem State.countWhen_false (s : State) (k : BitVec 4) : s.countWhen k false = s := by
  simp [State.countWhen, PerfControl.overflows, PerfControl.step]

/-- The exceptions that count as a refill (60_exceptions.md R1053, event 7; log 40). -/
def Exc.isRefill : Exc → Bool
  | .tlbRefill _ _ _ => true
  | .tlbpMultiple => true
  | _ => false

/-- Whether several entries have matched (20_memory.md R116). -/
def Exc.isMultiple : Exc → Bool
  | .tlbRefill _ _ multiple => multiple
  | .tlbpMultiple => true
  | _ => false

theorem State.countRefill_eq (s : State) (e : Exc) : s.countRefill e = s.countWhen 7 e.isRefill := by
  cases e with
  | tlbRefill => rfl
  | tlbpMultiple => rfl
  | _ => exact (s.countWhen_false 7).symm

/-! ## What the cause records

Beyond CP0 the cause only draws free values; in CP0 it writes Status.TS and the registers of an address. -/

/-- The free values that an exception draws (log 37, log 38). -/
def Exc.draws : Exc → Nat
  | .tlbModified _ | .tlbInvalid _ _ | .tlbRefill _ _ _ => 2
  | .addressErrorData _ _ => 5
  | .addressErrorFetch _ => 7
  | _ => 0

theorem State.recordCause_eq (s : State) (e : Exc) :
    s.recordCause e = (s.setCp0 (s.recordCause e).cp0).drew e.draws := by
  cases e <;> rfl

theorem State.recordCause_cause (s : State) (e : Exc) : (s.recordCause e).cp0.cause = s.cp0.cause := by
  cases e <;> rfl

theorem State.recordCause_epc (s : State) (e : Exc) : (s.recordCause e).cp0.epc = s.cp0.epc := by
  cases e <;> rfl

theorem State.recordCause_status (s : State) (e : Exc) :
    (s.recordCause e).status = { s.status with ts := e.isMultiple || s.status.ts } := by
  cases e <;> rfl

theorem State.recordCause_exl (s : State) (e : Exc) : (s.recordCause e).status.exl = s.status.exl := by
  rw [State.recordCause_status]

theorem takeException_eq (e : Exc) (s : State) :
    takeException e s = ((s.countWhen 7 e.isRefill).recordCause e).enterGeneral e (s.epcFor e) := by
  rw [takeException, s.countRefill_eq]

/-! ## What an exception keeps -/

/-- The registers outside CP0, the TLB, the LL bit, memory, the pins and the events to come are kept. -/
structure KeepsData (s t : State) : Prop where
  gpr : t.gpr = s.gpr
  hi : t.hi = s.hi
  lo : t.lo = s.lo
  fpr : t.fpr = s.fpr
  fcr31 : t.fcr31 = s.fcr31
  tlb : t.tlb = s.tlb
  link : SameLink s t
  mem : t.mem = s.mem
  pins : t.pins = s.pins
  env : t.env = s.env

theorem KeepsData.trans (h : KeepsData s t) (h' : KeepsData t u) : KeepsData s u where
  gpr := h'.gpr.trans h.gpr
  hi := h'.hi.trans h.hi
  lo := h'.lo.trans h.lo
  fpr := h'.fpr.trans h.fpr
  fcr31 := h'.fcr31.trans h.fcr31
  tlb := h'.tlb.trans h.tlb
  link := ⟨h'.link.1.trans h.link.1, h'.link.2.trans h.link.2⟩
  mem := h'.mem.trans h.mem
  pins := h'.pins.trans h.pins
  env := h'.env.trans h.env

theorem keepsData_countWhen (s : State) (k : BitVec 4) (happens : Bool) : KeepsData s (s.countWhen k happens) :=
  ⟨rfl, rfl, rfl, rfl, rfl, rfl, .refl s, rfl, rfl, rfl⟩

theorem keepsData_recordCause (s : State) (e : Exc) : KeepsData s (s.recordCause e) := by
  rw [State.recordCause_eq]
  exact ⟨rfl, rfl, rfl, rfl, rfl, rfl, .refl s, rfl, rfl, rfl⟩

theorem keepsData_enterGeneral (s : State) (e : Exc) (epc : Dword) : KeepsData s (s.enterGeneral e epc) :=
  ⟨rfl, rfl, rfl, rfl, rfl, rfl, .refl s, rfl, rfl, rfl⟩

theorem keepsData_takeException (e : Exc) (s : State) : KeepsData s (takeException e s) := by
  rw [takeException_eq]
  exact ((keepsData_countWhen s 7 e.isRefill).trans (keepsData_recordCause _ e)).trans (keepsData_enterGeneral _ e _)

theorem KeepsData.sameRegs (h : KeepsData s t) : SameRegs s t := State.reg_eq_of_gpr_eq s h.gpr
theorem KeepsData.sameHiLo (h : KeepsData s t) : SameHiLo s t := ⟨h.hi, h.lo⟩
theorem KeepsData.sameFpRegs (h : KeepsData s t) : SameFpRegs s t := fun i => by simp [State.fp, h.fpr]
theorem KeepsData.sameMemory (h : KeepsData s t) : SameMemory s t := fun a => by simp [State.byteAt, h.mem]

/-! ## The general entry -/

section Fields
variable (e : Exc) (s : State)

theorem takeException_cause :
    (takeException e s).cp0.cause = { s.cp0.cause with bd := s.inDelay, ce := e.unit, excCode := e.code } := by
  have hcause := (s.countWhen 7 e.isRefill).recordCause_cause e
  have hdelay : ((s.countWhen 7 e.isRefill).recordCause e).inDelay = s.inDelay := by rw [State.recordCause_eq]; rfl
  rw [takeException_eq]
  exact congrArg₂ (fun (c : Cause) bd => { c with bd := bd, ce := e.unit, excCode := e.code }) hcause hdelay

theorem takeException_status :
    (takeException e s).status = { s.status with exl := true, ts := e.isMultiple || s.status.ts } := by
  rw [takeException_eq]
  exact congrArg (fun st : Status => { st with exl := true }) ((s.countWhen 7 e.isRefill).recordCause_status e)

theorem takeException_epc : (takeException e s).cp0.epc = if s.status.exl then s.cp0.epc else s.epcFor e := by
  have hexl := (s.countWhen 7 e.isRefill).recordCause_exl e
  have hepc := (s.countWhen 7 e.isRefill).recordCause_epc e
  rw [takeException_eq]
  exact congrArg₂ (fun (exl : Bool) epc => if exl then epc else s.epcFor e) hexl hepc

/-- The vector is selected by Status as it was: TS plays no part in it. -/
theorem Exc.vector_of_ts (st : Status) (ts : Bool) :
    ({ st with ts := ts } : Status).vectorBase + e.vectorOffset { st with ts := ts } =
      st.vectorBase + e.vectorOffset st := by
  cases e <;> rfl

theorem takeException_pc : (takeException e s).pc = s.status.vectorBase + e.vectorOffset s.status := by
  rw [takeException_eq, ← e.vector_of_ts s.status (e.isMultiple || s.status.ts)]
  exact congrArg (fun st : Status => st.vectorBase + e.vectorOffset st)
    ((s.countWhen 7 e.isRefill).recordCause_status e)

theorem takeException_inputs : (takeException e s).inputs = (s.countWhen 7 e.isRefill).inputs := by
  rw [takeException_eq, State.recordCause_eq]
  rfl

end Fields

/-- The registers of CP0 that belong to an exception with an address (R1006, R1007). -/
def Cp0.withAddressOf (c d : Cp0) : Cp0 :=
  { c with
    badVAddr := d.badVAddr, context := d.context, xcontext := d.xcontext
    entryHi := d.entryHi, entryLo0 := d.entryLo0, entryLo1 := d.entryLo1 }

/-- Whether an exception records an address. -/
def Exc.hasAddress : Exc → Bool
  | .tlbRefill .. | .tlbInvalid .. | .tlbModified .. | .addressErrorData .. | .addressErrorFetch .. => true
  | _ => false

/-- An exception writes the general fields, and those of its address where it has one. -/
theorem takeException_cp0 (e : Exc) (s : State) : let t := takeException e s
    let other := { (s.countWhen 7 e.isRefill).cp0 with
      cause := t.cp0.cause, epc := t.cp0.epc, status := t.cp0.status }
    t.cp0 = if e.hasAddress then other.withAddressOf t.cp0 else other := by
  rw [takeException_eq]
  cases e <;> rfl

/-! ## The vector (60_exceptions.md R1004) -/

/-- The refill vector is selected by the range that the address lies in. -/
theorem Status.xRefill_eq (st : Status) (va : Dword) : st.xRefill va =
    if va < 0x4000000000000000 then st.ux
    else if va < 0x8000000000000000 then st.sx
    else if 0xFFFFFFFFC0000000 ≤ va ∧ va < 0xFFFFFFFFE0000000 then st.sx
    else st.kx := by
  have hlt := va.isLt
  have huser : va.extractLsb' 62 2 = 0b00#2 ↔ va < 0x4000000000000000 := by
    rw [extractLsb'_eq_iff, BitVec.lt_def]; simp; omega
  have hsup : va.extractLsb' 62 2 = 0b01#2 ↔ 0x4000000000000000 ≤ va ∧ va < 0x8000000000000000 := by
    rw [extractLsb'_eq_iff, BitVec.lt_def, BitVec.le_def]; simp; omega
  have hcsseg : va.extractLsb' 29 35 = 0x7FFFFFFFE#35 ↔ 0xFFFFFFFFC0000000 ≤ va ∧ va < 0xFFFFFFFFE0000000 := by
    rw [extractLsb'_eq_iff, BitVec.lt_def, BitVec.le_def]; simp; omega
  simp only [Status.xRefill, huser, hsup, hcsseg]
  by_cases h : va < 0x4000000000000000
  · rw [if_pos h, if_pos h]
  · simp only [if_neg h, BitVec.not_lt.1 h, true_and]

/-! ## Blurred addresses (60_exceptions.md R1006, log 38) -/

theorem getLsbD_ite_allOnes {n : Nat} (b : Bool) {j : Nat} (hj : j < n) :
    (if b then BitVec.allOnes n else 0#n).getLsbD j = b := by
  cases b <;> simp [hj]

theorem getLsbD_blurAddress (a : Dword) (b : Bool) {j : Nat} (hj : j < 64) :
    (blurAddress a b).getLsbD j = if 40 ≤ j ∧ j ≤ 58 then b else a.getLsbD j := by
  rw [blurAddress, BitVec.getLsbD_append, BitVec.getLsbD_append]
  by_cases hlow : j < 40
  · rw [if_pos hlow, if_neg (by omega), BitVec.getLsbD_extractLsb', decide_eq_true hlow, Bool.true_and, Nat.zero_add]
  rw [if_neg hlow]
  by_cases hmid : j ≤ 58
  · have hin : j - 40 < 19 := by omega
    have hblur : 40 ≤ j ∧ j ≤ 58 := by omega
    rw [if_pos hin, if_pos hblur, getLsbD_ite_allOnes b hin]
  · have hout : ¬ j - 40 < 19 := by omega
    have htop : j - 40 - 19 < 5 := by omega
    rw [if_neg hout, if_neg (by omega), BitVec.getLsbD_extractLsb', decide_eq_true htop, Bool.true_and]
    congr 1
    omega

theorem getLsbD_blurAddress_outside (a : Dword) (b : Bool) {j : Nat} (hj : j < 64) (h : j < 40 ∨ 58 < j) :
    (blurAddress a b).getLsbD j = a.getLsbD j := by
  rw [getLsbD_blurAddress a b hj, if_neg (by omega)]

theorem getLsbD_blurAddress_inside (a : Dword) (b : Bool) {j : Nat} (hlo : 40 ≤ j) (hhi : j ≤ 58) :
    (blurAddress a b).getLsbD j = (blurAddress a b).getLsbD 40 := by
  rw [getLsbD_blurAddress a b (by omega), getLsbD_blurAddress a b (by decide), if_pos ⟨hlo, hhi⟩, if_pos (by decide)]

theorem State.epcFor_fetch (h : s.status.addr64 = true) (va : Dword) :
    s.epcFor (.addressErrorFetch va) = blurAddress s.restart ((s.free 6).getLsbD 0) := if_pos h

/-- Only an address error on a fetch in 64-bit addressing mode blurs the restart address. -/
theorem State.epcFor_eq_restart {e : Exc} (h : s.status.addr64 = false ∨ ∀ va, e ≠ .addressErrorFetch va) :
    s.epcFor e = s.restart := by
  cases e with
  | addressErrorFetch va => exact if_neg (by simpa using h)
  | _ => rfl

theorem State.getLsbD_epcFor (s : State) (e : Exc) {j : Nat} (hj : j < 64)
    (h : j < 40 ∨ 58 < j ∨ s.status.addr64 = false ∨ ∀ va, e ≠ .addressErrorFetch va) :
    (s.epcFor e).getLsbD j = s.restart.getLsbD j := by
  by_cases hexact : s.status.addr64 = false ∨ ∀ va, e ≠ .addressErrorFetch va
  · rw [State.epcFor_eq_restart hexact]
  · obtain ⟨h64, va, rfl⟩ : s.status.addr64 = true ∧ ∃ va, e = .addressErrorFetch va := by simpa using hexact
    rw [State.epcFor_fetch h64]
    exact getLsbD_blurAddress_outside _ _ hj (by tauto)

theorem State.fetchBadVAddr_blurred (h64 : s.status.addr64 = true) (hjr : s.jrTarget = false) (va : Dword) :
    s.fetchBadVAddr va = blurAddress va ((s.free 5).getLsbD 0) := if_pos (by simp [h64, hjr])

theorem State.fetchBadVAddr_exact (h : s.status.addr64 = false ∨ s.jrTarget = true) (va : Dword) :
    s.fetchBadVAddr va = va := if_neg (by rcases h with h | h <;> simp [h])

/-! ## The address registers -/

/-- The upper half of EntryHi after a TLB exception in 32-bit addressing mode (92_eei_decisions.md D22). -/
theorem EntryHi.upper_of_word (x : EntryHi) {va : Dword} (hva : va = (va.setWidth 32).signExtend 64) :
    ({ x with r := va.extractLsb' 62 2, fill := va.extractLsb' 40 22,
              vpn2 := va.extractLsb' 13 27 : EntryHi }).toDword.extractLsb' 32 32 =
      if va.getLsbD 31 then BitVec.allOnes 32 else 0 := by
  have hsign {k : Nat} (hlo : 32 ≤ k) (hhi : k < 64) : va.getLsbD k = va.getLsbD 31 := by
    rw [hva, BitVec.getLsbD_signExtend, if_neg (by omega), decide_eq_true hhi, Bool.true_and, BitVec.getLsbD_signExtend,
      if_pos (by decide), BitVec.msb_eq_getLsbD_last]
    rfl
  have hbits : (va.extractLsb' 62 2 ++ va.extractLsb' 40 22 ++ (va.extractLsb' 13 27).extractLsb' 19 8) =
      va.extractLsb' 32 32 := by
    ext; simp; grind
  rw [EntryHi.extractLsb'_upper, hbits]
  apply BitVec.eq_of_getLsbD_eq
  intro j hj
  rw [BitVec.getLsbD_extractLsb', decide_eq_true hj, Bool.true_and, hsign (by omega) (by omega)]
  exact (getLsbD_ite_allOnes _ hj).symm

/-- What a TLB exception at `va` records in `t`. -/
structure RecordsTlbFault (s t : State) (va : Dword) : Prop where
  badVAddr : t.cp0.badVAddr = va
  context : t.cp0.context = { s.cp0.context with badVpn2 := va.extractLsb' 13 19 }
  xcontext : t.cp0.xcontext = { s.cp0.xcontext with r := va.extractLsb' 62 2, badVpn2 := va.extractLsb' 13 27 }
  entryHi : t.cp0.entryHi = { s.cp0.entryHi with
    r := va.extractLsb' 62 2, fill := EntryHi.fillOf s.status.addr64 va, vpn2 := va.extractLsb' 13 27 }

theorem recordsTlbFault_takeException {e : Exc} {va : Dword}
    (h : (∃ store m, e = .tlbRefill va store m) ∨ (∃ store, e = .tlbInvalid va store) ∨ e = .tlbModified va) :
    RecordsTlbFault s (takeException e s) va := by
  rcases h with ⟨store, m, rfl⟩ | ⟨store, rfl⟩ | rfl <;> exact ⟨rfl, rfl, rfl, rfl⟩

theorem RecordsTlbFault.upper {t : State} {va : Dword} (h : RecordsTlbFault s t va) (h32 : s.status.addr64 = false)
    (hva : va = (va.setWidth 32).signExtend 64) :
    (t.readCp0 10).extractLsb' 32 32 = if va.getLsbD 31 then BitVec.allOnes 32 else 0 := by
  have hhi := h.entryHi
  rw [h32] at hhi
  exact (congrArg (fun x : EntryHi => x.toDword.extractLsb' 32 32) hhi).trans (EntryHi.upper_of_word _ hva)

theorem takeException_asid (e : Exc) (s : State) : (takeException e s).cp0.entryHi.asid = s.cp0.entryHi.asid := by
  cases e <;> rfl
theorem takeException_contextBase (e : Exc) (s : State) :
    (takeException e s).cp0.context.pteBase = s.cp0.context.pteBase := by cases e <;> rfl
theorem takeException_xcontextBase (e : Exc) (s : State) :
    (takeException e s).cp0.xcontext.pteBase = s.cp0.xcontext.pteBase := by cases e <;> rfl

theorem takeException_fetch_badVAddr (s : State) (va : Dword) :
    (takeException (.addressErrorFetch va) s).cp0.badVAddr = s.fetchBadVAddr va := rfl

/-- Settles O47: the general fields by `takeException_eq`, the frame by `KeepsData`, and the records of the exceptions
with an address by the kind of exception. -/
theorem takingAnException : Obligations.TakingAnException := by
  intro e s
  have hkeeps := keepsData_takeException e s
  have hepc (h : s.status.exl = false) : (takeException e s).cp0.epc = s.epcFor e :=
    (takeException_epc e s).trans (if_neg (by simp [h]))
  refine ⟨takeException_cause e s, ?unit, fun h => (takeException_epc e s).trans (if_pos h),
    fun h j hj hexact => (congrArg (·.getLsbD j) (hepc h)).trans (s.getLsbD_epcFor e hj hexact), ?status, ?pc, rfl, rfl,
    rfl, hkeeps.sameRegs, hkeeps.sameHiLo, hkeeps.sameFpRegs, hkeeps.fcr31, hkeeps.tlb, hkeeps.link, hkeeps.sameMemory,
    ?inputs, hkeeps.pins, hkeeps.env, ?cp0, ?tlb, ?data, takeException_asid e s,
    takeException_contextBase e s, takeException_xcontextBase e s, ?fetch, ?fetchExact⟩
  case unit => rintro n rfl; rfl
  case status =>
    rw [takeException_status]
    cases e <;> rfl
  case pc =>
    rw [takeException_pc]
    cases e with
    | tlbRefill va store multiple =>
      simp only [Exc.vectorOffset, Status.xRefill_eq]
      rfl
    | _ => rfl
  case inputs =>
    rw [takeException_inputs]
    cases e <;> rfl
  case cp0 =>
    have h := takeException_cp0 e s
    cases e <;> exact h
  case tlb =>
    intro va h
    have hrec : RecordsTlbFault s (takeException e s) va := recordsTlbFault_takeException h
    exact ⟨hrec.badVAddr, hrec.context, hrec.xcontext, hrec.entryHi, hrec.upper⟩
  case data => rintro va store rfl; rfl
  case fetch =>
    rintro va rfl h64
    refine ⟨fun hexl j hlo hhi => ?_, fun hjr => ?_⟩
    · rw [hepc hexl, State.epcFor_fetch h64]
      exact getLsbD_blurAddress_inside _ _ hlo hhi
    · rw [takeException_fetch_badVAddr, State.fetchBadVAddr_blurred h64 hjr]
      exact ⟨fun j hj => getLsbD_blurAddress_outside _ _ hj, fun j => getLsbD_blurAddress_inside _ _⟩
  case fetchExact =>
    rintro va rfl h
    exact State.fetchBadVAddr_exact h va

end Sys2Proof.Machine
end

section
/-! O1: a step of a machine that is ready. The reasons of the words of no instruction come first, then the counting of
performance events, then the fetch. -/

open Sys2Proof

namespace Sys2Proof

variable {w : Word} {q : Reject}

/-! ## Reserved words, by the maps of the decoder (30_encoding.md R207 to R214) -/

theorem coOf_eq_getLsbD (w : Word) : coOf w = w.getLsbD 25 := by
  simp [coOf, code20Of, BitVec.msb_eq_getLsbD_last]

theorem decode_cop2 (h : opOf w = 0b010010#6) : decode w = .error .cop2 := by rw [decode, h]; rfl

theorem decode_reserved_major (h : opOf w ∈ ([0x1D, 0x1E, 0x1F, 0x32, 0x36, 0x3A, 0x3B, 0x3E] : List (BitVec 6))) :
    decode w = .error .reserved := by
  generalize hop : opOf w = op at h
  fin_cases h <;> rw [decode, hop] <;> rfl

theorem decodeSpecial_reserved
    (h : fnOf w ∈ ([0x05, 0x0E, 0x15, 0x28, 0x29, 0x35, 0x37, 0x39, 0x3D] : List (BitVec 6))) :
    decodeSpecial w = .error .reserved := by
  generalize hfn : fnOf w = fn at h
  fin_cases h <;> rw [decodeSpecial, hfn] <;> rfl

theorem decodeMult_reserved (h : f4Of w ∉ ([0, 1, 3, 5, 7, 9, 11, 13, 15] : List (BitVec 5))) :
    decodeMult w = .error .reserved := by
  unfold decodeMult
  split <;> simp_all

theorem decodeMultu_reserved (h : f4Of w ∉ ([0, 1, 3, 5, 7, 9, 11, 13, 15] : List (BitVec 5))) :
    decodeMultu w = .error .reserved := by
  unfold decodeMultu
  split <;> simp_all

theorem decodeRegimm_reserved (h : f2Of w ∈ ([0x04, 0x05, 0x06, 0x07, 0x0D, 0x0F, 0x14, 0x15, 0x16, 0x17, 0x18, 0x19,
    0x1A, 0x1B, 0x1C, 0x1D, 0x1E, 0x1F] : List (BitVec 5))) : decodeRegimm w = .error .reserved := by
  generalize hf2 : f2Of w = f2 at h
  fin_cases h <;> rw [decodeRegimm, hf2] <;> rfl

theorem decodeSpecial2_reserved
    (h : fnOf w ∉ ([0x00, 0x01, 0x02, 0x04, 0x05, 0x20, 0x21, 0x24, 0x25] : List (BitVec 6))) :
    decodeSpecial2 w = .error .reserved := by
  unfold decodeSpecial2
  split <;> simp_all

theorem decodeCop0Co_reserved (h : fnOf w ∉ ([0x01, 0x02, 0x06, 0x08, 0x18, 0x20] : List (BitVec 6))) :
    decodeCop0Co w = .error .cop0 := by
  unfold decodeCop0Co
  split <;> simp_all

theorem decodeBc0_reserved (h : f2Of w ∉ ([0, 1, 2, 3] : List (BitVec 5))) : decodeBc0 w = .error .cop0 := by
  unfold decodeBc0
  split <;> simp_all

theorem decodeCop0_reserved (hco : coOf w = false) (h : f1Of w ∉ ([0, 1, 4, 5, 8] : List (BitVec 5))) :
    decodeCop0 w = .error .cop0 := by
  unfold decodeCop0
  rw [hco, if_neg Bool.false_ne_true]
  split <;> simp_all

/-- The functions that neither format has. -/
def reservedFmtFunctions : List (BitVec 6) :=
  [0x10, 0x14, 0x17, 0x18, 0x19, 0x1A, 0x1B, 0x1C, 0x1D, 0x1E, 0x1F, 0x22, 0x23, 0x26, 0x27, 0x28, 0x29, 0x2A, 0x2B,
    0x2C, 0x2D, 0x2E, 0x2F]

theorem decodeFmtS_reserved (h : fnOf w ∈ 0x20 :: reservedFmtFunctions) : decodeFmtS w = .error .cop1Unimplemented := by
  unfold reservedFmtFunctions at h
  generalize hfn : fnOf w = fn at h
  fin_cases h <;> rw [decodeFmtS, hfn] <;> rfl

theorem decodeFmtD_reserved (h : fnOf w ∈ 0x21 :: reservedFmtFunctions) : decodeFmtD w = .error .cop1Unimplemented := by
  unfold reservedFmtFunctions at h
  generalize hfn : fnOf w = fn at h
  fin_cases h <;> rw [decodeFmtD, hfn] <;> rfl

theorem decodeFmtW_reserved (h : fnOf w ∉ ([0x20, 0x21, 0x08, 0x09, 0x0A, 0x0B, 0x25] : List (BitVec 6))) :
    decodeFmtW w = .error .cop1Unimplemented := by
  unfold decodeFmtW
  split <;> simp_all

theorem decodeFmtL_reserved (h : fnOf w ∉ ([0x20, 0x21, 0x08, 0x09, 0x0A, 0x0B, 0x25] : List (BitVec 6))) :
    decodeFmtL w = .error .cop1Unimplemented := by
  unfold decodeFmtL
  split <;> simp_all

theorem decodeCop1_reserved
    (h : f1Of w ∉ ([0x00, 0x01, 0x02, 0x04, 0x05, 0x06, 0x08, 0x10, 0x11, 0x14, 0x15] : List (BitVec 5))) :
    decodeCop1 w = .error .cop1Unimplemented := by
  unfold decodeCop1
  split <;> simp_all

theorem decodeCop1x_reserved (h : fnOf w ∉ ([0x00, 0x01, 0x05, 0x08, 0x09, 0x0D, 0x0F, 0x20, 0x21, 0x28, 0x29, 0x30,
    0x31, 0x38, 0x39] : List (BitVec 6))) : decodeCop1x w = .error .cop1Unimplemented := by
  unfold decodeCop1x
  split <;> simp_all

/-- The reserved words of COP1: no format, or a format without the function (R216). -/
theorem decode_cop1_reserved (hop : opOf w = 0b010001#6)
    (h : f1Of w ∉ ([0x00, 0x01, 0x02, 0x04, 0x05, 0x06, 0x08, 0x10, 0x11, 0x14, 0x15] : List (BitVec 5)) ∨
      f1Of w ∈ ([0x10, 0x11] : List (BitVec 5)) ∧ fnOf w ∈ reservedFmtFunctions ∨
      f1Of w = 0x10 ∧ fnOf w = 0x20 ∨ f1Of w = 0x11 ∧ fnOf w = 0x21 ∨
      f1Of w ∈ ([0x14, 0x15] : List (BitVec 5)) ∧
        fnOf w ∉ ([0x20, 0x21, 0x08, 0x09, 0x0A, 0x0B, 0x25] : List (BitVec 6))) :
    decode w = .error .cop1Unimplemented := by
  rcases h with h | ⟨hf1, hfn⟩ | ⟨hf1, hfn⟩ | ⟨hf1, hfn⟩ | ⟨hf1, hfn⟩
  · exact (decode_cop1 hop).trans (decodeCop1_reserved h)
  · rcases List.mem_pair.1 hf1 with hf1 | hf1
    · exact (decode_fmtS hop hf1).trans (decodeFmtS_reserved (List.mem_cons_of_mem _ hfn))
    · exact (decode_fmtD hop hf1).trans (decodeFmtD_reserved (List.mem_cons_of_mem _ hfn))
  · exact (decode_fmtS hop hf1).trans (decodeFmtS_reserved (hfn ▸ List.mem_cons_self))
  · exact (decode_fmtD hop hf1).trans (decodeFmtD_reserved (hfn ▸ List.mem_cons_self))
  · rcases List.mem_pair.1 hf1 with hf1 | hf1
    · exact (decode_fmtW hop hf1).trans (decodeFmtW_reserved hfn)
    · exact (decode_fmtL hop hf1).trans (decodeFmtL_reserved hfn)

/-! ## The reason, from the word -/

/-- `x` is an instruction, or its reason is `q`. -/
def OnlyRejects (x : Except Reject Instr) (q : Reject) : Prop := ∀ r, x = .error r → r = q

@[simp] theorem onlyRejects_ok (i : Instr) : OnlyRejects (.ok i) q := fun _ h => by cases h

@[simp] theorem onlyRejects_error : OnlyRejects (.error q) q := fun _ h => by cases h; rfl

@[simp] theorem onlyRejects_ite {c : Prop} [Decidable c] {x y : Except Reject Instr} :
    OnlyRejects (if c then x else y) q ↔ (c → OnlyRejects x q) ∧ (¬ c → OnlyRejects y q) := by
  split <;> simp_all

theorem decodeMult_onlyRejects (w : Word) : OnlyRejects (decodeMult w) .reserved := by
  unfold decodeMult; split <;> simp
theorem decodeMultu_onlyRejects (w : Word) : OnlyRejects (decodeMultu w) .reserved := by
  unfold decodeMultu; split <;> simp
theorem decodeSpecial_onlyRejects (w : Word) : OnlyRejects (decodeSpecial w) .reserved := by
  unfold decodeSpecial; split <;> simp [decodeMult_onlyRejects, decodeMultu_onlyRejects]
theorem decodeRegimm_onlyRejects (w : Word) : OnlyRejects (decodeRegimm w) .reserved := by
  unfold decodeRegimm; split <;> simp
theorem decodeSpecial2_onlyRejects (w : Word) : OnlyRejects (decodeSpecial2 w) .reserved := by
  unfold decodeSpecial2; split <;> simp
theorem decodeCop0Co_onlyRejects (w : Word) : OnlyRejects (decodeCop0Co w) .cop0 := by
  unfold decodeCop0Co; split <;> simp
theorem decodeBc0_onlyRejects (w : Word) : OnlyRejects (decodeBc0 w) .cop0 := by
  unfold decodeBc0; split <;> simp
theorem decodeCop0_onlyRejects (w : Word) : OnlyRejects (decodeCop0 w) .cop0 := by
  unfold decodeCop0
  refine onlyRejects_ite.2 ⟨fun _ => decodeCop0Co_onlyRejects w, fun _ => ?_⟩
  split <;> simp [decodeBc0_onlyRejects]
theorem decodeFmtS_onlyRejects (w : Word) : OnlyRejects (decodeFmtS w) .cop1Unimplemented := by
  unfold decodeFmtS; split <;> simp
theorem decodeFmtD_onlyRejects (w : Word) : OnlyRejects (decodeFmtD w) .cop1Unimplemented := by
  unfold decodeFmtD; split <;> simp
theorem decodeCop1x_onlyRejects (w : Word) : OnlyRejects (decodeCop1x w) .cop1Unimplemented := by
  unfold decodeCop1x; split <;> simp

/-- The functions of the conversions to L. -/
def toLongFunctions : List (BitVec 6) := [0x08, 0x09, 0x0A, 0x0B, 0x25]

theorem decodeFmtW_onlyRejects (w : Word) : OnlyRejects (decodeFmtW w)
    (if fnOf w ∈ toLongFunctions then .cop1LongInvalid else .cop1Unimplemented) := by
  unfold decodeFmtW; split <;> simp_all [toLongFunctions]
theorem decodeFmtL_onlyRejects (w : Word) : OnlyRejects (decodeFmtL w)
    (if fnOf w ∈ toLongFunctions then .cop1LongInvalid else .cop1Unimplemented) := by
  unfold decodeFmtL; split <;> simp_all [toLongFunctions]

/-- The reason of a COP1 word that is no instruction (R216, R217). -/
def cop1Reason (w : Word) : Reject :=
  if f1Of w ∈ ([0b10100, 0b10101] : List (BitVec 5)) ∧ fnOf w ∈ toLongFunctions then .cop1LongInvalid
  else .cop1Unimplemented

theorem decodeCop1_onlyRejects (w : Word) : OnlyRejects (decodeCop1 w) (cop1Reason w) := by
  unfold decodeCop1
  split <;> simp_all [cop1Reason, decodeFmtS_onlyRejects, decodeFmtD_onlyRejects, decodeFmtW_onlyRejects,
    decodeFmtL_onlyRejects]

/-- The reason of a word that is no instruction, by its major opcode. -/
def reasonOf (w : Word) : Reject :=
  if opOf w = 0b010000#6 then .cop0
  else if opOf w = 0b010010#6 then .cop2
  else if opOf w = 0b010001#6 then cop1Reason w
  else if opOf w = 0b010011#6 then .cop1Unimplemented
  else .reserved

theorem decode_onlyRejects (w : Word) : OnlyRejects (decode w) (reasonOf w) := by
  unfold decode
  split <;> simp_all [reasonOf, decodeSpecial_onlyRejects, decodeRegimm_onlyRejects, decodeSpecial2_onlyRejects,
    decodeCop0_onlyRejects, decodeCop1_onlyRejects, decodeCop1x_onlyRejects]

section Reasons
variable (w : Word)

theorem reasonOf_eq_cop0_iff : reasonOf w = .cop0 ↔ opOf w = 0b010000#6 := by
  unfold reasonOf cop1Reason; split_ifs <;> simp_all

theorem reasonOf_eq_cop2_iff : reasonOf w = .cop2 ↔ opOf w = 0b010010#6 := by
  unfold reasonOf cop1Reason; split_ifs <;> simp_all

theorem reasonOf_eq_cop1_iff : reasonOf w = .cop1Unimplemented ∨ reasonOf w = .cop1LongInvalid ↔
    opOf w = 0b010001#6 ∨ opOf w = 0b010011#6 := by
  unfold reasonOf cop1Reason; split_ifs <;> simp_all

theorem reasonOf_eq_cop1LongInvalid_iff : reasonOf w = .cop1LongInvalid ↔ opOf w = 0b010001#6 ∧
    f1Of w ∈ ([0b10100, 0b10101] : List (BitVec 5)) ∧ fnOf w ∈ toLongFunctions := by
  unfold reasonOf cop1Reason; split_ifs <;> simp_all

end Reasons

end Sys2Proof

namespace Sys2Proof.Machine

variable {s : State}

/-! ## Counting (60_exceptions.md R1053) -/

/-- A counter with this control register counts an occurrence of event `k`. -/
def PerfControl.Counts (c : PerfControl) (st : Status) (k : BitVec 4) (happens : Bool) : Prop :=
  happens = true ∧ c.event = k ∧
    (if st.exl then c.exl = true else st.erl = false ∧
      (match st.mode with | .kernel => c.k | .supervisor => c.s | .user => c.u) = true)

theorem PerfControl.selects_iff (c : PerfControl) (st : Status) : c.selects st = true ↔
    (if st.exl then c.exl = true else st.erl = false ∧
      (match st.mode with | .kernel => c.k | .supervisor => c.s | .user => c.u) = true) := by
  unfold PerfControl.selects
  by_cases hexl : st.exl = true
  · rw [if_pos hexl, if_pos hexl]
  · rw [if_neg hexl, if_neg hexl]
    cases st.erl with
    | true => simp
    | false => rw [if_neg Bool.false_ne_true]; exact (and_iff_right rfl).symm

section Counter
variable (c : PerfControl) (st : Status) (k : BitVec 4) (happens : Bool) (counter : Word)

theorem PerfControl.counts_iff : c.counts st k happens = true ↔ c.Counts st k happens := by
  simp only [PerfControl.counts, PerfControl.Counts, Bool.and_eq_true, beq_iff_eq, PerfControl.selects_iff]
  tauto

theorem PerfControl.overflows_iff : c.overflows st k happens counter = true ↔
    c.Counts st k happens ∧ c.ie = true ∧ counter = 0xFFFFFFFF := by
  simp [PerfControl.overflows, PerfControl.counts_iff, and_assoc]

variable {c st k happens}

theorem PerfControl.step_of_counts (h : c.Counts st k happens) : c.step st k happens counter = counter + 1 :=
  if_pos ((c.counts_iff st k happens).2 h)

theorem PerfControl.step_of_not_counts (h : ¬ c.Counts st k happens) : c.step st k happens counter = counter :=
  if_neg fun hc => h ((c.counts_iff st k happens).1 hc)

end Counter

theorem State.timerReq_countWhen_iff (s : State) (k : BitVec 4) (happens : Bool) :
    let c := s.cp0
    (s.countWhen k happens).inputs.timerReq = true ↔ s.inputs.timerReq = true ∨
      c.perfControl0.Counts s.status k happens ∧ c.perfControl0.ie = true ∧ c.perfCounter0 = 0xFFFFFFFF ∨
      c.perfControl1.Counts s.status k happens ∧ c.perfControl1.ie = true ∧ c.perfCounter1 = 0xFFFFFFFF := by
  simp only [State.countWhen, Bool.or_eq_true, PerfControl.overflows_iff]
  tauto

theorem sameButCounters_countWhen (s : State) (k : BitVec 4) (happens : Bool) :
    SameButCounters s (s.countWhen k happens) := ⟨_, _, _, rfl⟩

theorem SameButCounters.trans {t u : State} (h : SameButCounters s t) (h' : SameButCounters t u) :
    SameButCounters s u := by
  obtain ⟨c0, c1, req, rfl⟩ := h
  obtain ⟨c0', c1', req', rfl⟩ := h'
  exact ⟨c0', c1', req', rfl⟩

theorem sameButCounters_countKinds (s : State) (w : Word) : SameButCounters s (s.countKinds w) :=
  (((sameButCounters_countWhen ..).trans (sameButCounters_countWhen ..)).trans (sameButCounters_countWhen ..)).trans
    (sameButCounters_countWhen ..)

/-! ## The kinds of instruction words -/

section Kinds
variable (op : BitVec 6)

theorem loadGroup_iff : op &&& 0b111000#6 = 0b100000#6 ↔
    op ∈ ([0x20, 0x21, 0x22, 0x23, 0x24, 0x25, 0x26, 0x27] : List (BitVec 6)) := by
  decide +revert

theorem storeGroup_iff : op &&& 0b111000#6 = 0b101000#6 ∧ op ≠ 0b101111#6 ↔
    op ∈ ([0x28, 0x29, 0x2A, 0x2B, 0x2C, 0x2D, 0x2E] : List (BitVec 6)) := by
  decide +revert

theorem branchGroup_iff : op &&& 0b101100#6 = 0b000100#6 ↔
    op ∈ ([0x04, 0x05, 0x06, 0x07, 0x14, 0x15, 0x16, 0x17] : List (BitVec 6)) := by
  decide +revert

end Kinds

theorem isCop1x_iff (w : Word) (l : List (BitVec 6)) : isCop1x w l = true ↔ opOf w = 0b010011#6 ∧ fnOf w ∈ l := by
  simp [isCop1x]

theorem countsAsLoad_iff (w : Word) : countsAsLoad w = true ↔
    opOf w ∈ ([0x20, 0x21, 0x22, 0x23, 0x24, 0x25, 0x26, 0x27, 0x1A, 0x1B, 0x30, 0x34, 0x37, 0x33, 0x2F, 0x31,
      0x35] : List (BitVec 6)) ∨ opOf w = 0b010011#6 ∧ fnOf w ∈ ([0x00, 0x01, 0x05, 0x0F] : List (BitVec 6)) := by
  simp only [countsAsLoad, isFpLoad, Bool.or_eq_true, beq_iff_eq, loadGroup_iff, isCop1x_iff, List.mem_cons,
    List.not_mem_nil]
  by_cases hop : opOf w = 0b010011#6 <;> simp [hop, or_assoc]

theorem countsAsStore_iff (w : Word) : countsAsStore w = true ↔
    opOf w ∈ ([0x28, 0x29, 0x2A, 0x2B, 0x2C, 0x2D, 0x2E, 0x38, 0x3C, 0x3F, 0x39, 0x3D] : List (BitVec 6)) ∨
      opOf w = 0b010011#6 ∧ fnOf w ∈ ([0x08, 0x09, 0x0D] : List (BitVec 6)) := by
  simp only [countsAsStore, isFpStore, Bool.or_eq_true, Bool.and_eq_true, bne_iff_ne, beq_iff_eq, storeGroup_iff,
    isCop1x_iff, List.mem_cons, List.not_mem_nil]
  by_cases hop : opOf w = 0b010011#6 <;> simp [hop, or_assoc]

theorem countsAsBranch_iff {w : Word} (hjump : isJump w = false) : countsAsBranch w = true ↔
    opOf w ∈ ([0x04, 0x05, 0x06, 0x07, 0x14, 0x15, 0x16, 0x17] : List (BitVec 6)) ∨
      opOf w = 0b000001#6 ∧ w.getLsbD 19 = false ∨
      (opOf w = 0b010000#6 ∨ opOf w = 0b010001#6) ∧ f1Of w = 0b01000#5 := by
  simp only [countsAsBranch, hjump, Bool.or_eq_true, Bool.and_eq_true, beq_iff_eq, branchGroup_iff, Bool.false_and,
    Bool.false_eq_true, or_false, or_assoc, Bool.not_eq_true']

/-! ## The fetch (60_exceptions.md R1031) -/

/-- A ready machine attempts its instruction. -/
theorem step_of_ready (h : s.deliver.Ready) : step s = s.deliver.runInstr := by
  obtain ⟨hcold, hsoft, hrun, hnmi, herr, hint⟩ := h
  rw [step, afterEvents_proceed hcold hsoft (by simp [hrun]) hnmi herr, State.proceed_running hrun, hint]
  rfl

theorem instrAddr_countEvent (s : State) (k : BitVec 4) : (s.countEvent k).instrAddr = s.instrAddr := rfl

theorem State.runInstr_of_error {e : Exc} (h : s.instrAddr = .error e) :
    s.runInstr = .next (takeException e (s.countEvent 1)) := by
  simp only [State.runInstr, instrAddr_countEvent, h]
  rfl

theorem State.runInstr_of_ok {pa : PAddr} {attr : CacheAttr} (h : s.instrAddr = .ok (pa, attr)) :
    s.runInstr = if s.inputs.busErrFetch then .next (takeException .busErrorFetch (s.countEvent 1))
      else (s.countEvent 1).runAt pa := by
  simp only [State.runInstr, instrAddr_countEvent, h]
  rfl

/-- The instruction, or the reason why there is none, that the four bytes at an address hold (20_memory.md R112). -/
noncomputable def State.decodeAt (s : State) (pa : PAddr) : Except Reject Instr :=
  decodeBytes s.pins.bigEndian (s.byteAt pa.toNat) (s.byteAt (pa.toNat + 1)) (s.byteAt (pa.toNat + 2))
    (s.byteAt (pa.toNat + 3))

theorem State.runAt_of_ok {pa : PAddr} {i : Instr} (h : s.decodeAt pa = .ok i) :
    s.runAt pa = exec i (s.countKinds (s.fetchWord pa)) := by
  unfold State.decodeAt at h
  simp only [State.runAt, State.fetchByte, Nat.add_zero, h]

theorem State.runAt_of_error {pa : PAddr} {r : Reject} (h : s.decodeAt pa = .error r) : s.runAt pa = s.reject r := by
  unfold State.decodeAt at h
  simp only [State.runAt, State.fetchByte, Nat.add_zero, h]

/-- The state after the exception of a word of no instruction (log 65). -/
def State.rejected (s : State) : Reject → State
  | .reserved => takeException .reservedInstruction s
  | .cop0 => takeException (if s.status.cp0Usable then .reservedInstruction else .coprocessorUnusable 0) s
  | .cop1Unimplemented => if s.status.cu1 then
      takeException .floatingPoint (s.setFcr31 { s.fcr31 with cause := 0b100000 })
    else takeException (.coprocessorUnusable 1) s
  | .cop1LongInvalid => if s.status.cu1 then
      (if s.status.ops64 then takeException .floatingPoint (s.setFcr31 { s.fcr31 with cause := 0b100000 })
        else takeException .reservedInstruction s)
    else takeException (.coprocessorUnusable 1) s
  | .cop2 => takeException (if s.status.cu2 then .reservedInstruction else .coprocessorUnusable 2) s

theorem raiseUnimplemented_eq (s : State) : raiseUnimplemented s =
    .next (takeException .floatingPoint (s.setFcr31 { s.fcr31 with cause := 0b100000 })) := rfl

theorem State.reject_eq (s : State) (r : Reject) : s.reject r = .next (s.rejected r) := by
  cases r with
  | reserved => rfl
  | cop0 => cases h : s.status.cp0Usable <;> simp [State.reject, State.rejected, needCp0, raise, h]
  | cop1Unimplemented =>
    cases h : s.status.cu1 <;> simp [State.reject, State.rejected, needFpu, raiseUnimplemented_eq, raise, h]
  | cop1LongInvalid =>
    cases h : s.status.cu1 <;> cases h64 : s.status.ops64 <;>
      simp [State.reject, State.rejected, needFpu, need64, raiseUnimplemented_eq, raise, h, h64]
  | cop2 => cases h : s.status.cu2 <;> simp [State.reject, State.rejected, raise, h]

/-! ## The obligation -/

/-- Settles O1: the attempt of a ready machine by the outcomes of its fetch, the words of no instruction by the maps of
the decoder, and the counting by the conditions of a control register. -/
theorem stepRunsDecodedInstruction : Obligations.StepRunsDecodedInstruction := by
  refine ⟨?fetch, ?words, ?counting, ?kinds⟩
  case fetch =>
    intro s hready u st unimplemented
    have hstep := step_of_ready hready
    refine ⟨fun e he => hstep.trans (State.runInstr_of_error he), fun pa attr hok => ⟨fun hbus => ?_, fun hbus => ?_⟩⟩
    · rw [hstep, State.runInstr_of_ok hok, if_pos hbus]
    · have hrun : step s = u.runAt pa := by rw [hstep, State.runInstr_of_ok hok, hbus]; rfl
      refine ⟨fun i hi => ?_, fun r hr => ?_⟩
      · exact ⟨_, (sameButCounters_countWhen _ 1 true).trans (sameButCounters_countKinds u _), rfl,
          hrun.trans (State.runAt_of_ok hi)⟩
      · rw [hrun, State.runAt_of_error (s := u) hr, State.reject_eq]
        cases r <;> rfl
  case words =>
    intro w
    refine ⟨decode_cop2, fun h => decode_reserved_major h,
      fun hop h => (decode_special hop).trans (decodeSpecial_reserved h), fun hop h hf4 => ?mult,
      fun hop h => (decode_regimm hop).trans (decodeRegimm_reserved h),
      fun hop h => (decode_special2 hop).trans (decodeSpecial2_reserved h), fun hop h => ?cop1,
      fun hop h => (decode_cop1x hop).trans (decodeCop1x_reserved h),
      fun hop hco h => (decode_cop0Co hop ((coOf_eq_getLsbD w).trans hco)).trans (decodeCop0Co_reserved h),
      fun hop hco h => ?cop0, fun r hr => ?reasons⟩
    case mult =>
      rcases List.mem_pair.1 h with hfn | hfn
      · exact (decode_mult hop hfn).trans (decodeMult_reserved hf4)
      · exact (decode_multu hop hfn).trans (decodeMultu_reserved hf4)
    case cop1 => exact decode_cop1_reserved hop h
    case cop0 =>
      have hco' := (coOf_eq_getLsbD w).trans hco
      rcases h with h | ⟨hf1, hf2⟩
      · exact (decode_cop0 hop).trans (decodeCop0_reserved hco' h)
      · exact (decode_bc0 hop hco' hf1).trans (decodeBc0_reserved hf2)
    case reasons =>
      obtain rfl := decode_onlyRejects w r hr
      exact ⟨reasonOf_eq_cop0_iff w, reasonOf_eq_cop2_iff w, reasonOf_eq_cop1_iff w, reasonOf_eq_cop1LongInvalid_iff w⟩
  case counting =>
    intro s k happens
    exact ⟨sameButCounters_countWhen s k happens, PerfControl.step_of_counts _, PerfControl.step_of_not_counts _,
      PerfControl.step_of_counts _, PerfControl.step_of_not_counts _, s.timerReq_countWhen_iff k happens⟩
  case kinds =>
    exact fun _ w => ⟨rfl, countsAsLoad_iff w, countsAsStore_iff w, countsAsBranch_iff⟩

end Sys2Proof.Machine
end
